-- ==== Sys2Proof/Word.lean ====
section
/-! DEFINITION. The word type: an unsigned bit vector that carries its own width (R13).

The widths of IR, DR and the write registers are configuration (R8 to R11), so they differ from register
to register and from machine to machine. -/

namespace Sys2Proof

/-- One byte, the unit in which an encoded cycle word is laid out. -/
abbrev Byte := BitVec 8

/-- An unsigned bit vector of any width (R13): a register or a bus of the block. -/
structure Word where
  width : Nat
  bits : BitVec width
deriving DecidableEq, Repr

namespace Word

/-- The word of `width` bits that holds `v`, of which only the low `width` bits count. -/
def ofNat (width v : Nat) : Word := ⟨width, BitVec.ofNat width v⟩

/-- The word of `width` zero bits. -/
def zero (width : Nat) : Word := ⟨width, 0#width⟩

/-- `w[i]` of R13, bit 0 the least significant; a bit above the width reads 0. -/
def bit (w : Word) (i : Nat) : Bool := w.bits.getLsbD i

/-- The word read as an unsigned number (R13, R106). -/
def toNat (w : Word) : Nat := w.bits.toNat

end Word

end Sys2Proof
end

