-- ==== Sys2Proof/Config.lean ====
section
/-! DEFINITION. What is fixed when the block is instantiated (R8 to R12, R33), the inputs of one tick
(R18 to R21, R139), and the free values the environment supplies. -/

namespace Sys2Proof

/-- One entry `(addr_k, w_k)` of PORTS (R10): the instruction code that selects the port, and the width of
its `read_bus` and of its `write_bus` (equal: log 16). -/
structure Port where
  addr : Nat
  width : Nat
deriving DecidableEq, Repr, Inhabited

/-- The configuration (R3, R33): IR_WIDTH (R8), IR_RESET (R9), PORTS (R10), WRITE_BUS_BYPASS (R12). -/
structure Config where
  irWidth : Nat
  irReset : Nat
  ports : List Port
  writeBusBypass : Bool
deriving DecidableEq, Repr, Inhabited

/-- The kinds of configuration error, in the order of R127 to R131. -/
inductive ConfigError where
  /-- R127: two ports have the same address. -/
  | duplicateAddress
  /-- R128: some port is wider than the shared DR. -/
  | widthExceedsDr
  /-- R129: some port address does not fit in IR. -/
  | irTooNarrow
  /-- R130: IR_RESET does not fit in IR. -/
  | irResetTooWide
  /-- R131: L = 0, or no port, or a port of width 0. -/
  | emptyOrZeroWidth
deriving DecidableEq, Repr

/-- The number of the rule that states a kind of error: the order in which the kinds are reported (R132). -/
def ConfigError.rule : ConfigError → Nat
  | .duplicateAddress => 127
  | .widthExceedsDr => 128
  | .irTooNarrow => 129
  | .irResetTooWide => 130
  | .emptyOrZeroWidth => 131

/-- DR_WIDTH, written W (R11): "DR width = max read-bus width across all configured ports". -/
def Config.drWidth (c : Config) : Nat := c.ports.foldr (fun p w => max p.width w) 0

/-- The configuration of the spec's second scenario (95_test_vectors.md, V-CFG-1).
DESIGN CHOICE (log 2): `State.reset` needs some configuration; the spec gives no default (R8, R9). -/
def Config.scenario : Config where
  irWidth := 5
  irReset := 1
  ports := [⟨2, 8⟩, ⟨5, 3⟩]
  writeBusBypass := true

/-- What the environment presents in one tick: the pins (R18), TRST (R19), whether the enclosing system
applies a synchronous reset (R139), and the values on the read buses, port 0 first (R21; log 5). -/
structure Inputs where
  tck : Bool
  tms : Bool
  tdi : Bool
  trst : Bool
  systemReset : Bool
  readBus : List Nat
deriving DecidableEq, Repr, Inhabited

/-- FREE VALUE (log 3): the inputs of a tick that the schedule of a state does not list. Nothing constrains it. -/
opaque Config.freeInputs : Nat → Inputs

/-- FREE VALUE (log 5): what a read bus shows in a tick whose input record does not list it: a function of the
tick and of the port's number. Nothing constrains it. -/
opaque Config.freeReadBus : Nat → Nat → Nat

end Sys2Proof
end

