-- ==== Sys2Proof/Syntax.lean ====
section
/-! DEFINITION. The 16 TAP states (R24) and the cycle words as syntax (R56, R59): one constructor per row of
spec/opcode_table.json. -/

namespace Sys2Proof

/-- The 16 states of the controller, in the source's order (R24). -/
inductive TapState where
  | tlr | rti | seldr | capdr | shdr | ex1dr | padr | ex2dr | updr
  | selir | capir | shir | ex1ir | pair | ex2ir | upir
deriving DecidableEq, Repr

/-- A cycle word (R56): what the state machine executes at a `falling` tick. The constructor is the current
state S; `m` is the sampled TMS, `d` the sampled TDI (read by SHDR and SHIR only, R57). -/
inductive Instr where
  /-- TEST-LOGIC-RESET (R85). -/
  | tlr (m d : Bool)
  /-- RUN-TEST-IDLE (R86). -/
  | rti (m d : Bool)
  /-- SELECT-DR-SCAN (R87). -/
  | seldr (m d : Bool)
  /-- CAPTURE-DR (R88). -/
  | capdr (m d : Bool)
  /-- SHIFT-DR (R89). -/
  | shdr (m d : Bool)
  /-- EXIT1-DR (R90). -/
  | ex1dr (m d : Bool)
  /-- PAUSE-DR (R91). -/
  | padr (m d : Bool)
  /-- EXIT2-DR (R92). -/
  | ex2dr (m d : Bool)
  /-- UPDATE-DR (R93). -/
  | updr (m d : Bool)
  /-- SELECT-IR-SCAN (R94). -/
  | selir (m d : Bool)
  /-- CAPTURE-IR (R95). -/
  | capir (m d : Bool)
  /-- SHIFT-IR (R96). -/
  | shir (m d : Bool)
  /-- EXIT1-IR (R97). -/
  | ex1ir (m d : Bool)
  /-- PAUSE-IR (R98). -/
  | pair (m d : Bool)
  /-- EXIT2-IR (R99). -/
  | ex2ir (m d : Bool)
  /-- UPDATE-IR (R100). -/
  | upir (m d : Bool)
deriving DecidableEq, Repr

end Sys2Proof
end

