-- ==== Sys2Proof/Machine/State.lean ====
section
/-! DEFINITION. The state of the machine, why a step can stop, and reset (R23 to R31, R139, R140). -/

namespace Sys2Proof.Machine

/-- A run-time fault. There is none: "No runtime error states exist in the protocol itself" (R121), so the type
has no constructor and nobody raises it. Safe: it lets nothing be proved of the hardware that R121 does not say. -/
inductive Fault
deriving DecidableEq, Repr

/-- Why a step is refused. -/
inductive Refusal where
  /-- Raised by `exec` for an instruction without a meaning yet (no arm is so at present). Safe: the model stops
  where the hardware goes on. -/
  | notModelled (mnemonic : String)
  /-- Raised by `step` of a state whose configuration fails a check: such a configuration "is rejected with a
  configuration error and the block has no run at all" (R126). Safe: there is no hardware to differ from. -/
  | configRejected (kind : ConfigError)
deriving DecidableEq, Repr

/-- The registers of the block (R23 to R31), the inputs of the current tick (R18, R19, R21, R139), and the model's
own fields: the configuration (constant, log 1), the inputs of the following ticks and the tick number (log 3). -/
@[ext]
structure State where
  /-- The configuration (R33); no step writes it (log 1). -/
  cfg : Config
  /-- `state` (R23, R24). -/
  tap : TapState
  /-- `IR`, L bits (R25). -/
  ir : Word
  /-- `DR`, W bits (R26). -/
  dr : Word
  /-- `WR[k]`, w_k bits, port 0 first (R27). -/
  wr : List Word
  /-- `tck_s1` (R28). -/
  tckS1 : Bool
  /-- `tck_s2` (R28). -/
  tckS2 : Bool
  /-- `tms_s1` (R28). -/
  tmsS1 : Bool
  /-- `tms_s2` (R28). -/
  tmsS2 : Bool
  /-- `tdi_s1` (R28). -/
  tdiS1 : Bool
  /-- `tdi_s2` (R28). -/
  tdiS2 : Bool
  /-- `tck_prev` (R29). -/
  tckPrev : Bool
  /-- `settled_low` (R30). -/
  settledLow : Bool
  /-- `sampled_mode` (R31). -/
  sampledMode : Bool
  /-- `sampled_data` (R31). -/
  sampledData : Bool
  /-- The inputs of the current tick. -/
  inp : Inputs
  /-- The inputs of the following ticks, oldest first; after the last one they are free values (log 3). -/
  pending : List Inputs
  /-- The number n of the current tick (R14); only free values are drawn with it (log 3). -/
  tick : Nat
deriving DecidableEq, Repr

/-- `s` with every register of the block at its reset value (R140); configuration, inputs and tick as in `s`. -/
def State.resetRegisters (s : State) : State :=
  { s with
    tap := .tlr
    ir := Word.ofNat s.cfg.irWidth s.cfg.irReset
    dr := Word.zero s.cfg.drWidth
    wr := s.cfg.ports.map (fun p => Word.zero p.width)
    tckS1 := false
    tckS2 := false
    tmsS1 := false
    tmsS2 := false
    tdiS1 := false
    tdiS2 := false
    tckPrev := false
    settledLow := false
    sampledMode := false
    sampledData := false }

/-- The block of configuration `c` at tick 0 (R139, R140), with `i` as the inputs of tick 0 and `p` as those of the
following ticks. -/
def State.resetWith (c : Config) (i : Inputs) (p : List Inputs) : State :=
  State.resetRegisters
    { cfg := c, tap := .tlr, ir := Word.zero 0, dr := Word.zero 0, wr := [],
      tckS1 := false, tckS2 := false, tmsS1 := false, tmsS2 := false, tdiS1 := false, tdiS2 := false,
      tckPrev := false, settledLow := false, sampledMode := false, sampledData := false,
      inp := i, pending := p, tick := 0 }

/-- All lines low, no system reset, no read bus listed. DESIGN CHOICE (log 4): the inputs of tick 0 are the
environment's. -/
def quietInputs : Inputs :=
  { tck := false, tms := false, tdi := false, trst := false, systemReset := false, readBus := [] }

/-- The machine right after reset (R139, R140). DESIGN CHOICE: the configuration (log 2) and the inputs (log 4);
statements about reset are made of `State.resetWith` for every configuration and every input. -/
def State.reset : State := State.resetWith Config.scenario quietInputs []

end Sys2Proof.Machine
end

