-- ==== Sys2Proof/Machine/Flags.lean ====
section
/-! DEFINITION. The one-tick pulses of the edge detector (R70, R71). The block has no condition codes (R32). -/

namespace Sys2Proof.Machine

/-- `rising` (R70): `tck_s2` is 1 and was 0. -/
def State.rising (s : State) : Bool := !s.tckPrev && s.tckS2

/-- `falling` (R71): `tck_s2` is 0 and was 1. -/
def State.falling (s : State) : Bool := s.tckPrev && !s.tckS2

end Sys2Proof.Machine
end

