-- ==== Sys2Proof/Decode.lean ====
section
/-! DEFINITION. State codes (R55), the cycle word `{S, m, d}` (R56), its decoder and its encoder. -/

namespace Sys2Proof

/-- The 4-bit code of a state (R55). -/
def TapState.code : TapState → BitVec 4
  | .tlr => 0b0000#4
  | .rti => 0b0001#4
  | .seldr => 0b0010#4
  | .capdr => 0b0011#4
  | .shdr => 0b0100#4
  | .ex1dr => 0b0101#4
  | .padr => 0b0110#4
  | .ex2dr => 0b0111#4
  | .updr => 0b1000#4
  | .selir => 0b1001#4
  | .capir => 0b1010#4
  | .shir => 0b1011#4
  | .ex1ir => 0b1100#4
  | .pair => 0b1101#4
  | .ex2ir => 0b1110#4
  | .upir => 0b1111#4

/-- The state a code stands for; all 16 codes are used (R55). -/
def TapState.ofCode (c : BitVec 4) : TapState :=
  match c.toNat with
  | 0 => .tlr
  | 1 => .rti
  | 2 => .seldr
  | 3 => .capdr
  | 4 => .shdr
  | 5 => .ex1dr
  | 6 => .padr
  | 7 => .ex2dr
  | 8 => .updr
  | 9 => .selir
  | 10 => .capir
  | 11 => .shir
  | 12 => .ex1ir
  | 13 => .pair
  | 14 => .ex2ir
  | _ => .upir

/-- The instruction that the state machine executes in state `S` with operands `m` and `d` (R59: the state
alone selects the row). -/
def Instr.ofState (S : TapState) (m d : Bool) : Instr :=
  match S with
  | .tlr => .tlr m d
  | .rti => .rti m d
  | .seldr => .seldr m d
  | .capdr => .capdr m d
  | .shdr => .shdr m d
  | .ex1dr => .ex1dr m d
  | .padr => .padr m d
  | .ex2dr => .ex2dr m d
  | .updr => .updr m d
  | .selir => .selir m d
  | .capir => .capir m d
  | .shir => .shir m d
  | .ex1ir => .ex1ir m d
  | .pair => .pair m d
  | .ex2ir => .ex2ir m d
  | .upir => .upir m d

/-- Field S of an instruction (R56). -/
def Instr.tapState : Instr → TapState
  | .tlr _ _ => .tlr
  | .rti _ _ => .rti
  | .seldr _ _ => .seldr
  | .capdr _ _ => .capdr
  | .shdr _ _ => .shdr
  | .ex1dr _ _ => .ex1dr
  | .padr _ _ => .padr
  | .ex2dr _ _ => .ex2dr
  | .updr _ _ => .updr
  | .selir _ _ => .selir
  | .capir _ _ => .capir
  | .shir _ _ => .shir
  | .ex1ir _ _ => .ex1ir
  | .pair _ _ => .pair
  | .ex2ir _ _ => .ex2ir
  | .upir _ _ => .upir

/-- Field m of an instruction (R56): the sampled TMS, read by every state (R57). -/
def Instr.mode : Instr → Bool
  | .tlr m _ | .rti m _ | .seldr m _ | .capdr m _ | .shdr m _ | .ex1dr m _ | .padr m _ | .ex2dr m _
  | .updr m _ | .selir m _ | .capir m _ | .shir m _ | .ex1ir m _ | .pair m _ | .ex2ir m _ | .upir m _ => m

/-- Field d of an instruction (R56): the sampled TDI. -/
def Instr.data : Instr → Bool
  | .tlr _ d | .rti _ d | .seldr _ d | .capdr _ d | .shdr _ d | .ex1dr _ d | .padr _ d | .ex2dr _ d
  | .updr _ d | .selir _ d | .capir _ d | .shir _ d | .ex1ir _ d | .pair _ d | .ex2ir _ d | .upir _ d => d

/-- The cycle word `{S[3:0], m, d}` of its three fields (R56). -/
def cycleWordOf (S : TapState) (m d : Bool) : BitVec 6 :=
  (S.code ++ BitVec.ofBool m) ++ BitVec.ofBool d

/-- The instruction a cycle word stands for. Total: every cycle word is defined (R59, R61). -/
def decodeCycle (cw : BitVec 6) : Instr :=
  Instr.ofState (TapState.ofCode (cw.extractLsb' 2 4)) (cw.getLsbD 1) (cw.getLsbD 0)

/-- Why bytes are not a cycle word. -/
inductive DecodeError where
  /-- There is no byte to decode. -/
  | noByte
  /-- Bit 6 or bit 7 of the byte is 1: a cycle word has six bits (R56; one byte to a word: log 19). -/
  | beyondSixBits
deriving DecidableEq, Repr

/-- Decode one cycle word from bytes, one byte to a cycle word (log 19), and give the rest. There is one format
and one length (R56, R62). -/
def decode (bytes : List Byte) : Except DecodeError (Instr × List Byte) :=
  match bytes with
  | [] => .error .noByte
  | b :: rest =>
    if b.extractLsb' 6 2 = 0#2 then .ok (decodeCycle (b.setWidth 6), rest) else .error .beyondSixBits

/-- The cycle word of an instruction (R56). -/
def encodeCycle (i : Instr) : BitVec 6 := cycleWordOf i.tapState i.mode i.data

/-- The bytes of an instruction: its cycle word in one byte, the two bits above it 0 (log 19). -/
def encode (i : Instr) : List Byte := [(encodeCycle i).setWidth 8]

/-- The `n` bytes of a number, least significant byte first. -/
def bytesOfNat : Nat → Nat → List Byte
  | 0, _ => []
  | n + 1, w => BitVec.ofNat 8 w :: bytesOfNat n (w / 256)

/-- What the decoder reads from an instruction of `nbits` bits `w`, numbered as spec/opcode_table.json numbers
them. -/
def decodeTableWord (nbits w : Nat) : Option Instr :=
  match decode (bytesOfNat ((nbits + 7) / 8) (w % 2 ^ nbits)) with
  | .ok (i, _) => some i
  | .error _ => none

end Sys2Proof
end

