-- ==== Sys2Proof/Machine/Operands.lean ====
section
/-! DEFINITION. What an action reads: slices and windows of words (R13, R83), the addressed port (R106), its read bus
(R21, R88), and the cycle word of the current tick (R56). -/

namespace Sys2Proof

/-- `w[n-1:0]` of R13, and `zext_n(w)` where `n` is the larger: the low `n` bits, zeros above the width. -/
def Word.resize (w : Word) (n : Nat) : Word := ⟨n, w.bits.setWidth n⟩

/-- SHIFT_DR of R83 bit by bit: bits `0 .. n-2` take the bit above, bit `n-1` takes `d`, the bits from `n` on stay. -/
def Word.shiftWithin (w : Word) (n : Nat) (d : Bool) : Word :=
  ⟨w.width, BitVec.ofFnLE fun i =>
    if i.val + 1 < n then w.bit (i.val + 1) else if i.val + 1 = n then d else w.bit i.val⟩

namespace Machine

/-- The width w_k of port k (R10). -/
def portWidth (c : Config) (k : Nat) : Nat := (c.ports[k]?.map Port.width).getD 0

/-- `sel` of R106 for the code `code`: the port whose address it is, or none. -/
def selectPort (c : Config) (code : Nat) : Option Nat := c.ports.findIdx? (fun p => p.addr == code)

/-- `sel` (R106): the decoder reads the IR of the same tick, as an unsigned number. -/
def State.sel (s : State) : Option Nat := selectPort s.cfg s.ir.toNat

/-- `read_bus_k` of the current tick, w_k bits (R21, R116): the value the environment lists, of which only the w_k
bits of the bus exist, or a free value where it lists none (log 5). This is MemRead(k, w_k) of R15. -/
def State.readBus (s : State) (k : Nat) : Word :=
  Word.ofNat (portWidth s.cfg k) (s.inp.readBus[k]?.getD (Config.freeReadBus s.tick k))

/-- `WR[k]` (R27). A number that is no port's reads as the empty word; no rule reads one. -/
def State.writeReg (s : State) (k : Nat) : Word := s.wr[k]?.getD (Word.zero 0)

/-- The cycle word `{state, sampled_mode, sampled_data}` of the current tick (R56). -/
def State.cycleWord (s : State) : BitVec 6 := cycleWordOf s.tap s.sampledMode s.sampledData

/-- The instruction the state machine executes if the current tick is a `falling` tick (R56, R59). -/
def State.fetch (s : State) : Instr := decodeCycle s.cycleWord

end Machine

end Sys2Proof
end

