-- ==== Sys2Proof/Machine/Ops.lean ====
section
/-! DEFINITION. The named operations of the tick: the transition function (R79), the writers of IR, DR and WR (R36, R82),
the front end (R65 to R75), the inputs of the next tick, and the system reset (R139).

The block has no exception, trap or return from one (R121 to R123), so there is no exception entry to write here. -/

namespace Sys2Proof.Machine

/-- NEXT(state, mode) (R79). -/
def nextState (S : TapState) (mode : Bool) : TapState :=
  match S with
  | .tlr => if mode then .tlr else .rti
  | .rti => if mode then .seldr else .rti
  | .seldr => if mode then .selir else .capdr
  | .capdr => if mode then .ex1dr else .shdr
  | .shdr => if mode then .ex1dr else .shdr
  | .ex1dr => if mode then .updr else .padr
  | .padr => if mode then .ex2dr else .padr
  | .ex2dr => if mode then .updr else .shdr
  | .updr => if mode then .seldr else .rti
  | .selir => if mode then .tlr else .capir
  | .capir => if mode then .ex1ir else .shir
  | .shir => if mode then .ex1ir else .shir
  | .ex1ir => if mode then .upir else .pair
  | .pair => if mode then .ex2ir else .pair
  | .ex2ir => if mode then .upir else .shir
  | .upir => if mode then .seldr else .rti

/-- `state <- NEXT(S, mode)` (R78). -/
def State.transition (s : State) (S : TapState) (mode : Bool) : State := { s with tap := nextState S mode }

/-- `IR <- IR_RESET` (R85). -/
def State.reloadIr (s : State) : State := { s with ir := Word.ofNat s.cfg.irWidth s.cfg.irReset }

/-- The capture of R88: under an addressed code DR takes `read_bus` of that port, zero-extended to W bits (zero fill:
log 8); under an unaddressed code nothing. -/
def State.captureDr (s : State) : State :=
  match s.sel with
  | some k => { s with dr := (s.readBus k).resize s.cfg.drWidth }
  | none => s

/-- The shift of R89: within the width of the addressed port (R83); under an unaddressed code DR stays (log 9). -/
def State.shiftDr (s : State) (d : Bool) : State :=
  match s.sel with
  | some k => { s with dr := s.dr.shiftWithin (portWidth s.cfg k) d }
  | none => s

/-- The update of R93 and R111, MemWrite(k, w_k, DR[w_k-1:0]) of R15: only the addressed port's write register is
written; under an unaddressed code nothing. -/
def State.updateWr (s : State) : State :=
  match s.sel with
  | some k => { s with wr := s.wr.set k (s.dr.resize (portWidth s.cfg k)) }
  | none => s

/-- The shift of R96: IR <- {d, IR[L-1:1]} (R84). -/
def State.shiftIr (s : State) (d : Bool) : State := { s with ir := s.ir.shiftWithin s.ir.width d }

/-- The TAP path in a tick without `falling` (R81, R104): only TEST-LOGIC-RESET acts, and reloads IR (R85). -/
def State.idleTick (s : State) : State := if s.tap = .tlr then s.reloadIr else s

/-- The inputs of the next tick become the current ones: the next of the schedule, or free values after its end
(log 3). -/
def State.advanceInputs (s : State) : State :=
  match s.pending with
  | i :: rest => { s with inp := i, pending := rest, tick := s.tick + 1 }
  | [] => { s with inp := Config.freeInputs (s.tick + 1), tick := s.tick + 1 }

/-- The front end in one tick: synchronizer (R65), previous clock (R69), settled-low (R74), sample latch (R75). Every
right side reads the tick's own values (R14). -/
def State.clockFrontEnd (s : State) : State :=
  { s with
    tckS1 := s.inp.tck
    tckS2 := s.tckS1
    tmsS1 := s.inp.tms
    tmsS2 := s.tmsS1
    tdiS1 := s.inp.tdi
    tdiS2 := s.tdiS1
    tckPrev := s.tckS2
    settledLow := s.falling
    sampledMode := if s.rising then s.tmsS2 else s.sampledMode
    sampledData := if s.rising then s.tdiS2 else s.sampledData }

/-- What every tick without a system reset does around the TAP path: the front end and the next inputs. The TAP path
writes no register that this reads, so it may be applied to the TAP path's result. -/
def State.finishTick (s : State) : State := s.clockFrontEnd.advanceInputs

/-- A tick in which the enclosing system applies its reset: every register takes its reset value, "overriding every
other rule of that tick" (R139). The outputs of the tick are not changed by it (log 28). -/
def State.systemResetTick (s : State) : State := s.resetRegisters.advanceInputs

end Sys2Proof.Machine
end

