-- ==== Sys2Proof/Machine/DrPath.lean ====
section
/-! DEFINITION. The meanings of the seven DR-path states (R87 to R93). -/

namespace Sys2Proof.Machine

/-- SELECT-DR-SCAN at `falling` (R87): no register action. -/
def execSeldr (m _d : Bool) (s : State) : Host.Outcome State Fault Refusal :=
  .next (s.transition .seldr m)

/-- CAPTURE-DR at `falling` (R88): the addressed port's `read_bus` goes into DR. -/
def execCapdr (m _d : Bool) (s : State) : Host.Outcome State Fault Refusal :=
  .next (s.captureDr.transition .capdr m)

/-- SHIFT-DR at `falling` (R89): DR shifts, also in the tick that leaves the state. -/
def execShdr (m d : Bool) (s : State) : Host.Outcome State Fault Refusal :=
  .next ((s.shiftDr d).transition .shdr m)

/-- EXIT1-DR at `falling` (R90): no register action. -/
def execEx1dr (m _d : Bool) (s : State) : Host.Outcome State Fault Refusal :=
  .next (s.transition .ex1dr m)

/-- PAUSE-DR at `falling` (R91): no register action. -/
def execPadr (m _d : Bool) (s : State) : Host.Outcome State Fault Refusal :=
  .next (s.transition .padr m)

/-- EXIT2-DR at `falling` (R92): no register action. -/
def execEx2dr (m _d : Bool) (s : State) : Host.Outcome State Fault Refusal :=
  .next (s.transition .ex2dr m)

/-- UPDATE-DR at `falling` (R93): the addressed port's write register is loaded from DR. -/
def execUpdr (m _d : Bool) (s : State) : Host.Outcome State Fault Refusal :=
  .next (s.updateWr.transition .updr m)

end Sys2Proof.Machine
end

