-- ==== Sys2Proof/Machine/IrPath.lean ====
section
/-! DEFINITION. The meanings of the seven IR-path states (R94 to R100). -/

namespace Sys2Proof.Machine

/-- SELECT-IR-SCAN at `falling` (R94): no register action. -/
def execSelir (m _d : Bool) (s : State) : Host.Outcome State Fault Refusal :=
  .next (s.transition .selir m)

/-- CAPTURE-IR at `falling` (R95): no register action, no pattern is loaded (log 12). -/
def execCapir (m _d : Bool) (s : State) : Host.Outcome State Fault Refusal :=
  .next (s.transition .capir m)

/-- SHIFT-IR at `falling` (R96): IR shifts, also in the tick that leaves the state. -/
def execShir (m d : Bool) (s : State) : Host.Outcome State Fault Refusal :=
  .next ((s.shiftIr d).transition .shir m)

/-- EXIT1-IR at `falling` (R97): no register action. -/
def execEx1ir (m _d : Bool) (s : State) : Host.Outcome State Fault Refusal :=
  .next (s.transition .ex1ir m)

/-- PAUSE-IR at `falling` (R98): no register action. -/
def execPair (m _d : Bool) (s : State) : Host.Outcome State Fault Refusal :=
  .next (s.transition .pair m)

/-- EXIT2-IR at `falling` (R99): no register action. -/
def execEx2ir (m _d : Bool) (s : State) : Host.Outcome State Fault Refusal :=
  .next (s.transition .ex2ir m)

/-- UPDATE-IR at `falling` (R100): no register action, there is no instruction latch to load (log 12). -/
def execUpir (m _d : Bool) (s : State) : Host.Outcome State Fault Refusal :=
  .next (s.transition .upir m)

end Sys2Proof.Machine
end

