-- ==== Sys2Proof/Machine/Reset.lean ====
section
/-! DEFINITION. The meanings of TEST-LOGIC-RESET and RUN-TEST-IDLE (R85, R86). -/

namespace Sys2Proof.Machine

/-- TEST-LOGIC-RESET at `falling` (R85): "The reload still applies" in the tick that leaves the state; DR and the write
registers are unchanged (R82; log 13). -/
def execTlr (m _d : Bool) (s : State) : Host.Outcome State Fault Refusal :=
  .next (s.reloadIr.transition .tlr m)

/-- RUN-TEST-IDLE at `falling` (R86): no register action. -/
def execRti (m _d : Bool) (s : State) : Host.Outcome State Fault Refusal :=
  .next (s.transition .rti m)

end Sys2Proof.Machine
end

