-- ==== Sys2Proof/Machine/Dispatch.lean ====
section
/-! DEFINITION. exec: what the TAP path does at a `falling` tick, one arm per row of the opcode map (R59). -/

namespace Sys2Proof.Machine

def exec (i : Instr) (s : State) : Host.Outcome State Fault Refusal :=
  match i with
  | .tlr m d => Sys2Proof.Machine.execTlr m d s
  | .rti m d => Sys2Proof.Machine.execRti m d s
  | .seldr m d => Sys2Proof.Machine.execSeldr m d s
  | .capdr m d => Sys2Proof.Machine.execCapdr m d s
  | .shdr m d => Sys2Proof.Machine.execShdr m d s
  | .ex1dr m d => Sys2Proof.Machine.execEx1dr m d s
  | .padr m d => Sys2Proof.Machine.execPadr m d s
  | .ex2dr m d => Sys2Proof.Machine.execEx2dr m d s
  | .updr m d => Sys2Proof.Machine.execUpdr m d s
  | .selir m d => Sys2Proof.Machine.execSelir m d s
  | .capir m d => Sys2Proof.Machine.execCapir m d s
  | .shir m d => Sys2Proof.Machine.execShir m d s
  | .ex1ir m d => Sys2Proof.Machine.execEx1ir m d s
  | .pair m d => Sys2Proof.Machine.execPair m d s
  | .ex2ir m d => Sys2Proof.Machine.execEx2ir m d s
  | .upir m d => Sys2Proof.Machine.execUpir m d s

end Sys2Proof.Machine
end

