-- ==== Sys2Proof/Machine/Outputs.lean ====
section
/-! DEFINITION. The combinational outputs of a tick: strobes (R107 to R109), write buses (R112), TDO (R114). All are
functions of the registers of the tick (R35, R81), in a tick with a system reset too (log 28). -/

namespace Sys2Proof.Machine

/-- `capture_k` (R107): the `falling` tick of CAPTURE-DR while port k is addressed. -/
def State.capture (s : State) (k : Nat) : Bool :=
  s.falling && decide (s.tap = .capdr) && decide (s.sel = some k)

/-- `update_k` (R108): the `falling` tick of UPDATE-DR while port k is addressed. -/
def State.update (s : State) (k : Nat) : Bool :=
  s.falling && decide (s.tap = .updr) && decide (s.sel = some k)

/-- `reset_k` (R109): the level of TEST-LOGIC-RESET, the same for every port. -/
def State.resetStrobe (s : State) : Bool := decide (s.tap = .tlr)

/-- `write_bus_k` (R112): with WRITE_BUS_BYPASS the value being written already in the update tick (log 11). -/
def State.writeBus (s : State) (k : Nat) : Word :=
  if s.cfg.writeBusBypass && s.update k then s.dr.resize (portWidth s.cfg k) else s.writeReg k

/-- `tdo` (R114): DR[0] in SHIFT-DR, IR[0] in SHIFT-IR, 0 otherwise (log 10). -/
def State.tdo (s : State) : Bool :=
  if s.tap = .shdr then s.dr.bit 0 else if s.tap = .shir then s.ir.bit 0 else false

/-- The outputs toward one port (R21). -/
structure PortOutputs where
  capture : Bool
  update : Bool
  reset : Bool
  writeBus : Word
deriving DecidableEq, Repr

/-- The outputs of one tick (R35). -/
structure Outputs where
  tdo : Bool
  ports : List PortOutputs
deriving DecidableEq, Repr

/-- Every output of the current tick (R35), port 0 first. DESIGN CHOICE (log 28): a system reset changes no output of
its own tick, so a strobe may be high in it. -/
def State.outputs (s : State) : Outputs where
  tdo := s.tdo
  ports := (List.range s.cfg.ports.length).map fun k =>
    { capture := s.capture k, update := s.update k, reset := s.resetStrobe, writeBus := s.writeBus k }

end Sys2Proof.Machine
end

