-- ==== Sys2Proof/Machine/Setup.lean ====
section
/-! DEFINITION. The checks a configuration must pass before the block runs (R126 to R132, R143). -/

namespace Sys2Proof.Machine

/-- R127: two ports have the same address. -/
def duplicateAddresses (ports : List Port) : Bool :=
  match ports with
  | [] => false
  | p :: rest => rest.any (fun q => q.addr == p.addr) || duplicateAddresses rest

/-- Every kind of error of a configuration whose DR is `W` bits wide, in the order of R127 to R131.
`W` is an argument so that R128 can fail at all ("a model that takes W as an independent argument still
rejects W < max w_k"). -/
def configErrorsWith (W : Nat) (c : Config) : List ConfigError :=
  (if duplicateAddresses c.ports then [.duplicateAddress] else [])
    ++ (if c.ports.any (fun p => decide (W < p.width)) then [.widthExceedsDr] else [])
    ++ (if c.ports.any (fun p => decide (2 ^ c.irWidth ≤ p.addr)) then [.irTooNarrow] else [])
    ++ (if 2 ^ c.irWidth ≤ c.irReset then [.irResetTooWide] else [])
    ++ (if c.irWidth = 0 ∨ c.ports = [] ∨ c.ports.any (fun p => p.width == 0) then [.emptyOrZeroWidth] else [])

/-- Every kind of error of a configuration, W being the maximum of R11. -/
def configErrors (c : Config) : List ConfigError := configErrorsWith c.drWidth c

/-- The error reported for a configuration: "the first failing check in the order of rules R127 to R131" (R132). -/
def configCheck (c : Config) : Option ConfigError := (configErrors c).head?

end Sys2Proof.Machine
end

