-- ==== Sys2Proof/Machine/Step.lean ====
section
/-! DEFINITION. One step is one tick of the system clock (R35, R105). -/

namespace Sys2Proof.Machine

/-- One tick. A configuration that fails a check has no run (R126). A system reset overrides everything (R139). In a
`falling` tick the state machine executes its cycle word (R56, R78, R80); in every other tick only TEST-LOGIC-RESET acts
(R85). The front end acts in every tick (R65 to R75). -/
def step (s : State) : Host.Outcome State Fault Refusal :=
  match configCheck s.cfg with
  | some kind => .refused (.configRejected kind)
  | none =>
    if s.inp.systemReset then .next s.systemResetTick
    else if s.falling then
      match exec s.fetch s with
      | .next t => .next t.finishTick
      | .fault r => .fault r
      | .refused r => .refused r
    else .next s.idleTick.finishTick

/-- `s` made such that its next step executes the cycle word `w`: the state register and the sample latch hold its
fields (R56), the tick is a `falling` tick (R71), and no system reset overrides it (log 21). -/
def State.withFetchWord (s : State) (_nbits w : Nat) : State :=
  { s with
    tap := TapState.ofCode (BitVec.ofNat 4 (w / 4))
    sampledMode := (BitVec.ofNat 6 w).getLsbD 1
    sampledData := (BitVec.ofNat 6 w).getLsbD 0
    tckPrev := true
    tckS2 := false
    inp := { s.inp with systemReset := false } }

end Sys2Proof.Machine
end

