-- ==== Sys2Proof/Machine/Protocol.lean ====
section
/-! DEFINITION. The protocol level: cycles `(m, d)` (R16, R63), the pseudo-instructions (R64), and the pin waveform a
host drives for a cycle (R63, R146). -/

namespace Sys2Proof.Machine

/-- `CYC m d` (R63): one TCK cycle with TMS = m and TDI = d. -/
structure Cycle where
  mode : Bool
  data : Bool
deriving DecidableEq, Repr

/-- `TLR5` (R64). -/
def tlr5 : List Cycle := List.replicate 5 ⟨true, false⟩

/-- `IDLE` (R64). -/
def idle : List Cycle := [⟨false, false⟩]

/-- The shift cycles of a scan that sends `v`, bit 0 first, the last bit with TMS = 1 (R64). -/
def shiftCycles (v : Word) : List Cycle :=
  (List.range v.width).map fun i => ⟨decide (i + 1 = v.width), v.bit i⟩

/-- `IRSCAN v` (R64), from RUN-TEST-IDLE. -/
def irScan (v : Word) : List Cycle :=
  [⟨true, false⟩, ⟨true, false⟩, ⟨false, false⟩, ⟨false, false⟩] ++ shiftCycles v
    ++ [⟨true, false⟩, ⟨false, false⟩]

/-- `DRSCAN w v` (R64) with `w` the width of `v`, from RUN-TEST-IDLE. -/
def drScan (v : Word) : List Cycle :=
  [⟨true, false⟩, ⟨false, false⟩, ⟨false, false⟩] ++ shiftCycles v ++ [⟨true, false⟩, ⟨false, false⟩]

/-- One cycle at protocol level: the current state's instruction on the cycle's operands (R16, R56). -/
def cycleStep (c : Cycle) (s : State) : Host.Outcome State Fault Refusal :=
  exec (Instr.ofState s.tap c.mode c.data) s

/-- A protocol program: cycle after cycle. -/
def runCycles : List Cycle → State → Host.Outcome State Fault Refusal
  | [], s => .next s
  | c :: cs, s =>
    match cycleStep c s with
    | .next t => runCycles cs t
    | .fault r => .fault r
    | .refused r => .refused r

/-- The TDO bits a protocol program reports, each read before its cycle's action (R63). -/
def cyclesTdo : List Cycle → State → List Bool
  | [], _ => []
  | c :: cs, s =>
    s.tdo :: match cycleStep c s with
      | .next t => cyclesTdo cs t
      | .fault _ => []
      | .refused _ => []

/-- The inputs of one tick of a host that drives cycle `c`, with `bus` on the read buses. -/
def Cycle.inputs (c : Cycle) (bus : List Nat) (tck : Bool) : Inputs :=
  { tck := tck, tms := c.mode, tdi := c.data, trst := false, systemReset := false, readBus := bus }

/-- The pin waveform of one cycle (R63, R146): TMS and TDI held, TCK low for `lo` ticks and then high for `hi`. -/
def Cycle.waveform (c : Cycle) (bus : List Nat) (lo hi : Nat) : List Inputs :=
  List.replicate lo (c.inputs bus false) ++ List.replicate hi (c.inputs bus true)

/-- The pin waveform of a protocol program. -/
def programWaveform (cs : List Cycle) (bus : List Nat) (lo hi : Nat) : List Inputs :=
  (cs.map fun c => c.waveform bus lo hi).flatten

end Sys2Proof.Machine
end

