-- ==== Sys2Proof/WellFormed.lean ====
section
/-! DEFINITION. Well-formed terms: a configuration that passes every check (R126), and an instruction, of which
none is ill formed (R61). -/

namespace Sys2Proof

/-- A configuration with which the block may run (R126, R143). -/
def Config.wellFormed (c : Config) : Bool := (Machine.configCheck c).isNone

/-- The bytes of a well-formed instruction: exactly one cycle word (R56, R62), the bits above it 0 (log 19). -/
def wellFormedBytes (bytes : List Byte) : Bool :=
  match decode bytes with
  | .ok (_, rest) => rest.isEmpty
  | .error _ => false

/-- An instruction is well formed when its encoding is: "There are no illegal, reserved or hint encodings. Every
cycle word of section 2 is defined" (R61), so every instruction is. -/
def Instr.wellFormed (i : Instr) : Bool := wellFormedBytes (encode i)

end Sys2Proof
end

