-- ==== Sys2Proof/Safety.lean ====
section
/-! DEFINITION. Well-formed states, runs, and the contract of the environment, in the terms claims use. -/

namespace Sys2Proof.Machine

/-- The registers have the widths the configuration gives them (R25 to R27). -/
def State.widthsOk (s : State) : Bool :=
  decide (s.ir.width = s.cfg.irWidth) && decide (s.dr.width = s.cfg.drWidth)
    && decide (s.wr.map Word.width = s.cfg.ports.map Port.width)

/-- A well-formed state: a configuration that passed its checks (R143) and registers of its widths. -/
def State.wf (s : State) : Bool := s.cfg.wellFormed && s.widthsOk

/-- No system reset is applied in the tick that `s` begins (R139). -/
abbrev State.noSystemReset (s : State) : Prop := s.inp.systemReset = false

/-- The front end of `u` is that of `s` one tick later: synchronizer (R65), previous clock (R69), settled-low (R74),
sample latch (R75). -/
def FrontEndClocked (s u : State) : Prop :=
  u.tckS1 = s.inp.tck ∧ u.tckS2 = s.tckS1 ∧ u.tmsS1 = s.inp.tms ∧ u.tmsS2 = s.tmsS1 ∧
  u.tdiS1 = s.inp.tdi ∧ u.tdiS2 = s.tdiS1 ∧ u.tckPrev = s.tckS2 ∧ u.settledLow = s.falling ∧
  u.sampledMode = (if s.rising then s.tmsS2 else s.sampledMode) ∧
  u.sampledData = (if s.rising then s.tdiS2 else s.sampledData)

/-- The front end of `u` is that of `s`. -/
def SameFrontEnd (s u : State) : Prop :=
  u.tckS1 = s.tckS1 ∧ u.tckS2 = s.tckS2 ∧ u.tmsS1 = s.tmsS1 ∧ u.tmsS2 = s.tmsS2 ∧
  u.tdiS1 = s.tdiS1 ∧ u.tdiS2 = s.tdiS2 ∧ u.tckPrev = s.tckPrev ∧ u.settledLow = s.settledLow ∧
  u.sampledMode = s.sampledMode ∧ u.sampledData = s.sampledData

/-- The registers of the TAP path of `u` (R23, R25 to R27) are those of `t`. -/
def SameTapPath (t u : State) : Prop := u.tap = t.tap ∧ u.ir = t.ir ∧ u.dr = t.dr ∧ u.wr = t.wr

/-- Every register of the block (R23 to R31) is the same in `s` and `u`. -/
def SameRegisters (s u : State) : Prop := SameTapPath s u ∧ SameFrontEnd s u

/-- `Ticks s trace u`: stepping from `s` through the ticks of `trace` (each state as it is during its tick) ends in
`u`. -/
inductive Ticks : State → List State → State → Prop where
  | done (s : State) : Ticks s [] s
  | tick {s t u : State} {trace : List State} (h : step s = .next t) (rest : Ticks t trace u) :
      Ticks s (s :: trace) u

/-- A run in which the enclosing system applies no reset. -/
abbrev Uninterrupted (trace : List State) : Prop := ∀ t ∈ trace, t.noSystemReset

/-- The pulses of a run in order: true for a `rising` tick, false for a `falling` tick (R72). -/
def pulses : List State → List Bool
  | [] => []
  | s :: rest => if s.rising then true :: pulses rest else if s.falling then false :: pulses rest else pulses rest

/-- The modes on which the `falling` ticks of a run decided, in order (R78). -/
def fallingModes : List State → List Bool
  | [] => []
  | s :: rest => if s.falling then s.sampledMode :: fallingModes rest else fallingModes rest

/-- R116: the owner of port k presents its register's value `own` on the read bus. -/
def PresentsValue (s : State) (k : Nat) (own : Word) : Prop := s.readBus k = own

/-- R118 and R119: what the register behind port k holds after the tick, given what it holds (`own`) and its reset
value if it has one. The owner is the enclosing system's; this is its duty, not part of the block (log 26). -/
def OwnerObeys (s : State) (k : Nat) (resetValue : Option Word) (own' : Word) : Prop :=
  (s.update k = true → own' = s.writeBus k) ∧
  (∀ r, resetValue = some r → s.resetStrobe = true → own' = r)

end Sys2Proof.Machine
end

