-- ==== Sys2Proof/Certificates/Slice0/Obligations.lean ====
section
/-! DEFINITION. The statements for the provers. "Stated" statements say a numbered rule of spec/ whole; "derived" ones
rest on a clause the spec marks as its own decision or derivation, or join several rules. -/

open Sys2Proof Sys2Proof.Machine

/-! ### Encoding -/

/-- R56, R61 (D27; one byte to a word: log 19): decoding what the encoder writes gives the instruction back, every
operand at every value, whatever bytes follow. -/
def Obligations.DecodeOfEncode : Prop :=
  ∀ (i : Instr) (rest : List Byte), decode (encode i ++ rest) = .ok (i, rest)

/-- R56, R61 (D27; log 19): a byte with a bit above the cycle word is refused by name, every other byte is the encoding
of exactly the instruction it decodes to, and no bytes are refused by name. -/
def Obligations.EncodeOfDecode : Prop :=
  decode [] = .error .noByte ∧
  ∀ (b : Byte) (rest : List Byte),
    (64 ≤ b.toNat → decode (b :: rest) = .error .beyondSixBits) ∧
    (b.toNat < 64 → ∃ i, decode (b :: rest) = .ok (i, rest) ∧ encode i = [b])

/-- Words written out from R56 and program P1 of 95_test_vectors.md, one of each family: they decode to the state the
table gives them (D5, D27). -/
def Obligations.WordsReadAsTheSpecWritesThem : Prop :=
  decode [0b00000000#8] = .ok (.tlr false false, []) ∧ decode [0b00000110#8] = .ok (.rti true false, []) ∧
  decode [0b00010001#8] = .ok (.shdr false true, []) ∧ decode [0b00010110#8] = .ok (.ex1dr true false, []) ∧
  decode [0b00100000#8] = .ok (.updr false false, []) ∧ decode [0b00101101#8] = .ok (.shir false true, []) ∧
  decode [0b00101110#8] = .ok (.shir true false, []) ∧ decode [0b00111111#8] = .ok (.upir true true, [])

/-- The fixture of the host: `withFetchWord` places the instruction of a table word so that the next tick is a `falling`
tick that fetches it, and no system reset overrides it (log 21). -/
def Obligations.PlacedWordIsFetched : Prop :=
  ∀ (s : State) (w : Nat) (i : Instr), decodeTableWord 8 w = some i →
    (s.withFetchWord 8 w).fetch = i ∧ (s.withFetchWord 8 w).falling = true ∧ (s.withFetchWord 8 w).noSystemReset

/-! ### The tick -/

/-- R56, R80, R105: in a `falling` tick the step is exec of the instruction that the tick's cycle word decodes to, on the
tick's own values; around it the front end moves on one tick and the configuration stays. -/
def Obligations.FallingTickRunsTheDecodedInstruction : Prop :=
  ∀ (s t : State) (i : Instr), decode [s.cycleWord.setWidth 8] = .ok (i, []) →
    s.cfg.wellFormed = true → s.noSystemReset → s.falling = true → exec i s = .next t →
    ∃ u, step s = .next u ∧ SameTapPath t u ∧ FrontEndClocked s u ∧ u.cfg = s.cfg

/-- R81, R104, R85 (that TEST-LOGIC-RESET leaves DR and the write registers is D13, log 13): a tick without `falling` changes no register of the TAP path but IR in TEST-LOGIC-RESET. -/
def Obligations.TickWithoutFallingKeepsTheTapPath : Prop :=
  ∀ s : State, s.cfg.wellFormed = true → s.noSystemReset → s.falling = false →
    ∃ u, step s = .next u ∧ FrontEndClocked s u ∧ u.cfg = s.cfg ∧ u.tap = s.tap ∧ u.dr = s.dr ∧ u.wr = s.wr ∧
      u.ir = if s.tap = .tlr then Word.ofNat s.cfg.irWidth s.cfg.irReset else s.ir

/-- R78: the state changes only at `falling`, and then to NEXT of the current state and `sampled_mode`. -/
def Obligations.StateChangesOnlyAtFalling : Prop :=
  ∀ s : State, s.cfg.wellFormed = true → s.noSystemReset →
    ∃ t, step s = .next t ∧ t.tap = if s.falling then nextState s.tap s.sampledMode else s.tap

/-- R79: NEXT is the source's table, entry by entry (mode 1, mode 0). -/
def Obligations.NextIsTheTransitionTable : Prop :=
  ∀ S : TapState, (nextState S true, nextState S false) =
    match S with
    | .tlr => (TapState.tlr, TapState.rti)
    | .rti => (.seldr, .rti)
    | .seldr => (.selir, .capdr)
    | .capdr => (.ex1dr, .shdr)
    | .shdr => (.ex1dr, .shdr)
    | .ex1dr => (.updr, .padr)
    | .padr => (.ex2dr, .padr)
    | .ex2dr => (.updr, .shdr)
    | .updr => (.seldr, .rti)
    | .selir => (.tlr, .capir)
    | .capir => (.ex1ir, .shir)
    | .shir => (.ex1ir, .shir)
    | .ex1ir => (.upir, .pair)
    | .pair => (.ex2ir, .pair)
    | .ex2ir => (.upir, .shir)
    | .upir => (.seldr, .rti)

/-- R65: the two stages of each line take the pin and the first stage in every tick, and the pins and first stages are
read by nothing else: changing them changes no output of the tick and no other register of the next tick. R69: `tck_prev` takes `tck_s2`. -/
def Obligations.SynchronizerTakesPins : Prop :=
  ∀ s : State, s.cfg.wellFormed = true → s.noSystemReset →
    (∃ t, step s = .next t ∧ t.tckS1 = s.inp.tck ∧ t.tckS2 = s.tckS1 ∧ t.tmsS1 = s.inp.tms ∧ t.tmsS2 = s.tmsS1 ∧
      t.tdiS1 = s.inp.tdi ∧ t.tdiS2 = s.tdiS1 ∧ t.tckPrev = s.tckS2) ∧
    ∀ (a b c a' b' c' : Bool) (r : State),
      r = { s with tckS1 := a, tmsS1 := b, tdiS1 := c, inp := { s.inp with tck := a', tms := b', tdi := c' } } →
      r.outputs = s.outputs ∧
      ∀ t t' : State, step s = .next t → step r = .next t' →
      SameTapPath t t' ∧ t'.tckPrev = t.tckPrev ∧ t'.settledLow = t.settledLow ∧
      t'.sampledMode = t.sampledMode ∧ t'.sampledData = t.sampledData

/-- R66 (derived there): a pin level reaches the second stage two ticks later, on all three lines. After reset the second
stages are 0 in the first two ticks, and the first stages in the first one (the zeros are the spec's decision D2, log 7). -/
def Obligations.SynchronizerLatencyIsTwoTicks : Prop :=
  (∀ s t u : State, step s = .next t → step t = .next u → s.noSystemReset → t.noSystemReset →
    u.tckS2 = s.inp.tck ∧ u.tmsS2 = s.inp.tms ∧ u.tdiS2 = s.inp.tdi) ∧
  (∀ (c : Config) (i : Inputs) (p : List Inputs) (t : State), step (State.resetWith c i p) = .next t →
    (State.resetWith c i p).tckS1 = false ∧ (State.resetWith c i p).tmsS1 = false ∧
    (State.resetWith c i p).tdiS1 = false ∧ (State.resetWith c i p).tckS2 = false ∧
    (State.resetWith c i p).tmsS2 = false ∧ (State.resetWith c i p).tdiS2 = false ∧ t.tckS2 = false ∧ t.tmsS2 = false ∧ t.tdiS2 = false)

/-- R73, R76, R150 (derived there; D6, D7): `b` is the first tick with TCK = 1 at the pin. Two ticks later is a `rising`
tick, and one tick after that the latch holds the TMS and TDI that the pins had in `b`. -/
def Obligations.PinRiseIsSampled : Prop :=
  ∀ a b c d e : State, step a = .next b → step b = .next c → step c = .next d → step d = .next e →
    a.noSystemReset → b.noSystemReset → c.noSystemReset → d.noSystemReset →
    a.inp.tck = false → b.inp.tck = true →
    d.rising = true ∧ e.sampledMode = b.inp.tms ∧ e.sampledData = b.inp.tdi

/-- R73, R150 (derived there; D6): `b` is the first tick with TCK = 0 at the pin. Two ticks later is a `falling` tick,
and one tick after that the state is the successor and `settled_low` is 1. -/
def Obligations.PinFallActsThreeTicksLater : Prop :=
  ∀ a b c d e : State, step a = .next b → step b = .next c → step c = .next d → step d = .next e →
    a.noSystemReset → b.noSystemReset → c.noSystemReset → d.noSystemReset →
    a.inp.tck = true → b.inp.tck = false →
    d.falling = true ∧ e.tap = nextState d.tap d.sampledMode ∧ e.settledLow = true

/-- R50: the TMS and TDI that the action of a `falling` tick uses are those latched at the latest `rising` tick `s`
before it, which are the second stages of that tick (the spec's decision D7, log 20). -/
def Obligations.ActionUsesTheLatestSample : Prop :=
  ∀ (s t u : State) (trace : List State), step s = .next t → Ticks t trace u → s.noSystemReset →
    Uninterrupted trace → s.rising = true → (∀ x ∈ trace, x.rising = false) → u.falling = true →
    u.fetch = Instr.ofState u.tap s.tmsS2 s.tdiS2

/-- R72, R142 (derived there): in a run without a system reset the pulses alternate, and after reset the first is a
`rising` (`tck_prev` = 0 at reset is the spec's decision D2, log 7). -/
def Obligations.PulsesAlternate : Prop :=
  ∀ (s u : State) (trace : List State), Ticks s trace u → Uninterrupted trace →
    (pulses trace).IsChain (· ≠ ·) ∧
    ((∃ c i p, s = State.resetWith c i p) → (pulses trace).head? ≠ some false)

/-- R104 (derived there; that TEST-LOGIC-RESET leaves DR and the write registers is D13, log 13): with no `falling` tick in a run, the state, DR and the write registers stay, and IR changes at
most to IR_RESET, in TEST-LOGIC-RESET, whatever the length of the run. -/
def Obligations.NoEdgesNoMutation : Prop :=
  ∀ (s u : State) (trace : List State), Ticks s trace u → Uninterrupted trace →
    (∀ x ∈ trace, x.falling = false) →
    u.tap = s.tap ∧ u.dr = s.dr ∧ u.wr = s.wr ∧
    u.ir = if s.tap = .tlr ∧ trace ≠ [] then Word.ofNat s.cfg.irWidth s.cfg.irReset else s.ir

/-! ### The instructions -/

/-- R85 (with D13): in TEST-LOGIC-RESET every tick reloads IR and holds the reset strobe, DR and the write registers
stay, and a `falling` tick goes to TLR or RTI. -/
def Obligations.TestLogicResetReloadsIr : Prop :=
  ∀ s : State, s.cfg.wellFormed = true → s.noSystemReset → s.tap = .tlr →
    s.resetStrobe = true ∧
    ∃ t, step s = .next t ∧ t.ir = Word.ofNat s.cfg.irWidth s.cfg.irReset ∧ t.ir.toNat = s.cfg.irReset ∧
      t.dr = s.dr ∧ t.wr = s.wr ∧ t.tap = if s.falling && !s.sampledMode then .rti else .tlr

/-- R85 as an instruction (with D13): TLR reloads IR, goes to TLR or RTI, and changes nothing else. -/
def Obligations.TlrCompletes : Prop :=
  ∀ (m d : Bool) (s : State),
    exec (.tlr m d) s = .next { s with ir := Word.ofNat s.cfg.irWidth s.cfg.irReset, tap := if m then .tlr else .rti }

/-- R90 and R97: EXIT1-DR and EXIT1-IR only move on, at `falling`, change no register but the state, and TDO is 0 in
them. -/
def Obligations.Exit1StatesOnlyMoveOn : Prop :=
  (∀ (m d : Bool) (s : State),
    exec (.ex1dr m d) s = .next { s with tap := if m then .updr else .padr } ∧
    exec (.ex1ir m d) s = .next { s with tap := if m then .upir else .pair }) ∧
  ∀ s : State, s.cfg.wellFormed = true → s.noSystemReset →
    (s.tap = .ex1dr → s.tdo = false ∧ ∃ t, step s = .next t ∧ t.ir = s.ir ∧ t.dr = s.dr ∧ t.wr = s.wr ∧
      t.tap = if s.falling then (if s.sampledMode then .updr else .padr) else .ex1dr) ∧
    (s.tap = .ex1ir → s.tdo = false ∧ ∃ t, step s = .next t ∧ t.ir = s.ir ∧ t.dr = s.dr ∧ t.wr = s.wr ∧
      t.tap = if s.falling then (if s.sampledMode then .upir else .pair) else .ex1ir)

/-- R86, R87, R91, R92, R94, R95, R98, R99, R100 (CAPTURE-IR and UPDATE-IR by D12, log 12): these instructions only move
on; every register but the state keeps its value. -/
def Obligations.StatesWithoutActionOnlyMoveOn : Prop :=
  ∀ (m d : Bool) (s : State),
    exec (.rti m d) s = .next { s with tap := if m then .seldr else .rti } ∧
    exec (.seldr m d) s = .next { s with tap := if m then .selir else .capdr } ∧
    exec (.padr m d) s = .next { s with tap := if m then .ex2dr else .padr } ∧
    exec (.ex2dr m d) s = .next { s with tap := if m then .updr else .shdr } ∧
    exec (.selir m d) s = .next { s with tap := if m then .tlr else .capir } ∧
    exec (.capir m d) s = .next { s with tap := if m then .ex1ir else .shir } ∧
    exec (.pair m d) s = .next { s with tap := if m then .ex2ir else .pair } ∧
    exec (.ex2ir m d) s = .next { s with tap := if m then .upir else .shir } ∧
    exec (.upir m d) s = .next { s with tap := if m then .seldr else .rti }

/-- R88 (zero fill by D8, log 8; the tick by D26): CAPTURE-DR loads the addressed port's read bus into the low bits of
DR and zeros above; under an unaddressed code it only moves on. Nothing but DR and the state changes. -/
def Obligations.CaptureLoadsReadBus : Prop :=
  ∀ (m d : Bool) (s : State),
    (∀ k, s.sel = some k → ∃ t, exec (.capdr m d) s = .next t ∧ t.dr.width = s.cfg.drWidth ∧
      (∀ i, i < portWidth s.cfg k → t.dr.bit i = (s.readBus k).bit i) ∧
      (∀ i, portWidth s.cfg k ≤ i → t.dr.bit i = false) ∧
      t = { s with dr := t.dr, tap := if m then .ex1dr else .shdr }) ∧
    (s.sel = none → exec (.capdr m d) s = .next { s with tap := if m then .ex1dr else .shdr })

/-- R83: SHIFT-DR under an addressed code moves bits `1 .. w-1` of DR down one place, puts `d` at bit `w-1`, and leaves
the bits from `w` on and every other register but the state undisturbed (`w` the width of the addressed port). -/
def Obligations.ShiftDrWithinTheAddressedWidth : Prop :=
  ∀ (m d : Bool) (s : State) (k w : Nat), s.wf = true → s.sel = some k → w = portWidth s.cfg k →
    ∃ t, exec (.shdr m d) s = .next t ∧ t.dr.width = s.dr.width ∧
      (∀ i, i + 1 < w → t.dr.bit i = s.dr.bit (i + 1)) ∧ t.dr.bit (w - 1) = d ∧
      (∀ i, w ≤ i → t.dr.bit i = s.dr.bit i) ∧
      t = { s with dr := t.dr, tap := if m then .ex1dr else .shdr }

/-- R89 under an unaddressed code (the model's choice D9, log 9): DR does not shift, and TDO keeps showing its bit 0 (in a
tick with a system reset too: log 28). -/
def Obligations.ShiftDrUnaddressedKeepsDr : Prop :=
  ∀ (m d : Bool) (s : State), s.sel = none →
    exec (.shdr m d) s = .next { s with tap := if m then .ex1dr else .shdr } ∧
    (s.tap = .shdr → s.tdo = s.dr.bit 0)

/-- R93: UPDATE-DR writes DR[w_k-1:0] to the addressed port's write register, leaves every other write register and
every other register but the state, and under an unaddressed code only moves on. -/
def Obligations.UpdateWritesTheAddressedPort : Prop :=
  ∀ (m d : Bool) (s : State),
    (∀ k, s.wf = true → s.sel = some k → ∃ t, exec (.updr m d) s = .next t ∧
      (t.writeReg k).width = portWidth s.cfg k ∧
      (∀ i, i < portWidth s.cfg k → (t.writeReg k).bit i = s.dr.bit i) ∧
      (∀ j, j ≠ k → t.writeReg j = s.writeReg j) ∧
      t = { s with wr := t.wr, tap := if m then .seldr else .rti }) ∧
    (s.sel = none → exec (.updr m d) s = .next { s with tap := if m then .seldr else .rti })

/-- R84: SHIFT-IR moves the bits of IR down one place and puts `d` at the top; every other register but the state
keeps its value. -/
def Obligations.ShiftIrInsertsAtTheTop : Prop :=
  ∀ (m d : Bool) (s : State), 1 ≤ s.ir.width →
    ∃ t, exec (.shir m d) s = .next t ∧ t.ir.width = s.ir.width ∧
      (∀ i, i + 1 < s.ir.width → t.ir.bit i = s.ir.bit (i + 1)) ∧ t.ir.bit (s.ir.width - 1) = d ∧
      t = { s with ir := t.ir, tap := if m then .ex1ir else .shir }

/-- R96 as ticks: in SHIFT-IR, TDO is IR[0] in every tick; a `falling` tick shifts `sampled_data` in at the top, also
when it leaves the state; any other tick leaves IR and the state. -/
def Obligations.ShiftIrTicks : Prop :=
  ∀ s : State, s.wf = true → s.noSystemReset → s.tap = .shir →
    s.tdo = s.ir.bit 0 ∧
    ∃ t, step s = .next t ∧ t.ir.width = s.ir.width ∧
      (s.falling = true → t.tap = (if s.sampledMode then .ex1ir else .shir) ∧
        (∀ i, i + 1 < s.ir.width → t.ir.bit i = s.ir.bit (i + 1)) ∧
        t.ir.bit (s.ir.width - 1) = s.sampledData) ∧
      (s.falling = false → t.tap = .shir ∧ t.ir = s.ir)

/-- R25 to R27, R36, R82 (the actions listed are exhaustive by D13): the frame of every instruction. The front end, the
configuration and the inputs stay; IR changes in TLR and SHIR only, DR in CAPDR and SHDR only, the write registers in
UPDR only. -/
def Obligations.ExecFrame : Prop :=
  ∀ (i : Instr) (s : State), ∃ t, exec i s = .next t ∧ SameFrontEnd s t ∧ t.cfg = s.cfg ∧ t.inp = s.inp ∧
    t.pending = s.pending ∧ t.tick = s.tick ∧ t.tap = nextState i.tapState i.mode ∧
    (i.tapState ≠ .tlr → i.tapState ≠ .shir → t.ir = s.ir) ∧
    (i.tapState ≠ .capdr → i.tapState ≠ .shdr → t.dr = s.dr) ∧
    (i.tapState ≠ .updr → t.wr = s.wr)

/-- R57: every state reads m, which selects the next state; d enters DR at the top of the addressed window in SHIFT-DR and IR at the top in SHIFT-IR,
and is ignored in the other 14 states. -/
def Obligations.OperandUse : Prop :=
  (∀ (S : TapState) (d : Bool) (s : State), ∃ t u, exec (Instr.ofState S true d) s = .next t ∧
    exec (Instr.ofState S false d) s = .next u ∧ t.tap = nextState S true ∧ u.tap = nextState S false ∧
    t.tap ≠ u.tap) ∧
  (∀ (S : TapState) (m d d' : Bool) (s : State), S ≠ .shdr → S ≠ .shir →
    exec (Instr.ofState S m d) s = exec (Instr.ofState S m d') s) ∧
  (∀ (m d : Bool) (s : State) (k : Nat), s.wf = true → s.sel = some k →
    ∃ t, exec (.shdr m d) s = .next t ∧ t.dr.bit (portWidth s.cfg k - 1) = d) ∧
  (∀ (m d : Bool) (s : State), s.wf = true → ∃ t, exec (.shir m d) s = .next t ∧ t.ir.bit (s.cfg.irWidth - 1) = d)

/-! ### The register bank -/

/-- R106: the decoder selects port k exactly when its address is IR, and no port exactly when none has it; a code has at
most one port. -/
def Obligations.DecoderSelectsTheAddressedPort : Prop :=
  ∀ s : State, s.cfg.wellFormed = true →
    (∀ k, s.sel = some k ↔ ∃ h : k < s.cfg.ports.length, s.cfg.ports[k].addr = s.ir.toNat) ∧
    (s.sel = none ↔ ∀ p ∈ s.cfg.ports, p.addr ≠ s.ir.toNat)

/-- R107 and R108: a capture (update) strobe is high exactly in a `falling` tick of CAPTURE-DR (UPDATE-DR) while the
port's address is IR; it is high for one tick only, and never under an unaddressed code (in a tick with a system
reset too, against R125 and R139: the model's choice, log 28). -/
def Obligations.StrobesMarkTheActions : Prop :=
  ∀ (s : State) (k : Nat), s.cfg.wellFormed = true →
    (s.capture k = true ↔ s.falling = true ∧ s.tap = .capdr ∧
      ∃ h : k < s.cfg.ports.length, s.cfg.ports[k].addr = s.ir.toNat) ∧
    (s.update k = true ↔ s.falling = true ∧ s.tap = .updr ∧
      ∃ h : k < s.cfg.ports.length, s.cfg.ports[k].addr = s.ir.toNat) ∧
    (s.capture k = true → ∀ t, step s = .next t → t.capture k = false) ∧
    (s.update k = true → ∀ t, step s = .next t → t.update k = false) ∧
    (s.sel = none → s.capture k = false ∧ s.update k = false)

/-- R109: the reset strobe of every port is a level: high exactly in TEST-LOGIC-RESET whatever IR holds, from the tick
after the `falling` that enters it through the `falling` that leaves it, and from tick 0 after reset. That each
clause says so of a strobe in a tick with a system reset too (the second of the tick after its own), against R125 and
R139, is the model's choice (log 28). -/
def Obligations.ResetStrobeIsALevel : Prop :=
  (∀ s : State, ∀ o ∈ s.outputs.ports, (o.reset = true ↔ s.tap = .tlr)) ∧
  (∀ s : State, s.cfg.wellFormed = true → s.noSystemReset → ∃ t, step s = .next t ∧
    (t.resetStrobe = true ↔
      if s.falling then nextState s.tap s.sampledMode = .tlr else s.resetStrobe = true)) ∧
  (∀ (c : Config) (i : Inputs) (p : List Inputs), (State.resetWith c i p).resetStrobe = true)

/-- R110 (derived there): at most one capture or update strobe is high, and none while the reset strobes are (in a tick
with a system reset too: the model's choice, log 28). -/
def Obligations.AtMostOneStrobe : Prop :=
  ∀ (s : State) (j k : Nat),
    (s.capture j = true → s.capture k = true → j = k) ∧ (s.update j = true → s.update k = true → j = k) ∧
    ¬(s.capture j = true ∧ s.update k = true) ∧
    (s.resetStrobe = true → s.capture k = false ∧ s.update k = false) ∧
    (s.sel = some j → k ≠ j → s.capture k = false ∧ s.update k = false)

/-- R111: the write register of port k is loaded from DR[w_k-1:0] exactly in a `falling` tick of UPDATE-DR while port k
is addressed; otherwise it keeps its value. -/
def Obligations.WriteRegisterLoad : Prop :=
  ∀ s : State, s.wf = true → s.noSystemReset →
    ∃ t, step s = .next t ∧ ∀ k, k < s.cfg.ports.length →
      t.writeReg k =
        if s.falling = true ∧ s.tap = .updr ∧ s.sel = some k then s.dr.resize (portWidth s.cfg k) else s.writeReg k

/-- R112, R113 (the model's choice D11, log 11): with the bypass the write bus shows in each tick what the write
register holds from the next tick on; without it, what the write register holds now. -/
def Obligations.WriteBusShowsTheNextValue : Prop :=
  ∀ (s : State) (k : Nat), s.wf = true → s.noSystemReset → k < s.cfg.ports.length →
    (s.cfg.writeBusBypass = true → ∃ t, step s = .next t ∧ s.writeBus k = t.writeReg k) ∧
    (s.cfg.writeBusBypass = false → s.writeBus k = s.writeReg k)

/-- R114 (0 outside the shift states by D10, log 10; in a tick with a system reset too, against R125 and R139, by the
model's choice, log 28): what TDO shows in each state. -/
def Obligations.TdoByState : Prop :=
  ∀ s : State, (s.tap = .shdr → s.tdo = s.dr.bit 0) ∧ (s.tap = .shir → s.tdo = s.ir.bit 0) ∧
    (s.tap ≠ .shdr → s.tap ≠ .shir → s.tdo = false)

/-- R115 (derived there), R81 (0 outside the shift states by D10, log 10): TDO does not change over a tick without
`falling`. That this is also said where a system reset is applied in the tick after it, against R125 and R139, is the
model's choice (log 28). -/
def Obligations.TdoHoldsBetweenFallingTicks : Prop :=
  ∀ s t : State, step s = .next t → s.noSystemReset → s.falling = false → t.tdo = s.tdo

/-- R118, R147 (environment; the bypass is D11, log 11): the owner of a port that adopts the write bus in the update tick
takes the scanned value with the bypass, and the previous one without (in a tick with a system reset too: log 28). -/
def Obligations.OwnerAdoptsTheScannedValue : Prop :=
  ∀ (s : State) (k : Nat) (r : Option Word) (own : Word), s.update k = true → OwnerObeys s k r own →
    (s.cfg.writeBusBypass = true → own = s.dr.resize (portWidth s.cfg k)) ∧
    (s.cfg.writeBusBypass = false → own = s.writeReg k)

/-- R53 (derived there; that CAPTURE-IR and UPDATE-IR do nothing is D12, log 12): while the IR path is walked no capture or update strobe rises (in a tick with a system reset
too: log 28), and DR and the write registers stay, whatever code passes through IR. -/
def Obligations.IrPathActsOnNoPort : Prop :=
  ∀ s t : State, s.tap ∈ [TapState.selir, .capir, .shir, .ex1ir, .pair, .ex2ir, .upir] →
    (∀ k, s.capture k = false ∧ s.update k = false) ∧
    (step s = .next t → s.noSystemReset → t.dr = s.dr ∧ t.wr = s.wr)

/-- R116 and R88 (the tick by D26): the read buses matter only in the `falling` tick of CAPTURE-DR, and then only the
selected port's; no output shows them in any tick. -/
def Obligations.ReadBusMattersOnlyAtCapture : Prop :=
  ∀ (s : State) (bus : List Nat),
    { s with inp := { s.inp with readBus := bus } }.outputs = s.outputs ∧
    ((∀ k, s.capture k = true → { s with inp := { s.inp with readBus := bus } }.readBus k = s.readBus k) →
    step { s with inp := { s.inp with readBus := bus } } = step s)

/-- R19, R124 (the spec's decision D14, log 14): no rule reads TRST; the next state and the outputs are the same whatever
it is. -/
def Obligations.TrstHasNoEffect : Prop :=
  ∀ (s : State) (b : Bool),
    step { s with inp := { s.inp with trst := b } } = step s ∧
    { s with inp := { s.inp with trst := b } }.outputs = s.outputs

/-! ### Configuration, reset, invariants -/

/-- R126: a configuration that fails a check is rejected with its kind and has no run, and nothing else is refused. -/
def Obligations.FailingConfigurationHasNoRun : Prop :=
  ∀ (s : State) (kind : ConfigError),
    configCheck s.cfg = some kind ↔ step s = .refused (.configRejected kind)

/-- R127, R128, R129: when each of these kinds is found; with W the maximum of the widths R128 never fires. -/
def Obligations.SourceConfigurationChecks : Prop :=
  ∀ c : Config,
    (ConfigError.duplicateAddress ∈ configErrors c ↔
      ∃ i j, ∃ hi : i < c.ports.length, ∃ hj : j < c.ports.length, i ≠ j ∧ c.ports[i].addr = c.ports[j].addr) ∧
    (∀ W, ConfigError.widthExceedsDr ∈ configErrorsWith W c ↔ ∃ p ∈ c.ports, W < p.width) ∧
    ConfigError.widthExceedsDr ∉ configErrors c ∧
    (ConfigError.irTooNarrow ∈ configErrors c ↔ ∃ p ∈ c.ports, 2 ^ c.irWidth ≤ p.addr)

/-- R130, R131, R132 (the spec's choices D16, log 15): when the other two kinds are found, and that the kind reported is
the first that fails. -/
def Obligations.AddedConfigurationChecks : Prop :=
  ∀ c : Config,
    (ConfigError.irResetTooWide ∈ configErrors c ↔ 2 ^ c.irWidth ≤ c.irReset) ∧
    (ConfigError.emptyOrZeroWidth ∈ configErrors c ↔ c.irWidth = 0 ∨ c.ports = [] ∨ ∃ p ∈ c.ports, p.width = 0) ∧
    (configCheck c = none ↔ configErrors c = []) ∧
    (∀ kind, configCheck c = some kind ↔
      kind ∈ configErrors c ∧ ∀ other ∈ configErrors c, kind.rule ≤ other.rule)

/-- R121: a machine with a valid configuration runs on for any number of ticks, whatever its inputs; it never faults and
is never refused. -/
def Obligations.ValidMachineNeverStops : Prop :=
  ∀ (s : State) (n : Nat), s.cfg.wellFormed = true → ∃ t, Sys2Proof.core.run n s = .next t

/-- R25 to R27, R33, R45: every step keeps the configuration and the widths it gives the registers; from every
well-formed state, not only those of runs from reset. -/
def Obligations.StepKeepsWellFormed : Prop :=
  ∀ s t : State, s.wf = true → step s = .next t → t.wf = true ∧ t.cfg = s.cfg

/-- R140, R143: reset of every valid configuration is well formed, and of the configuration of `State.reset` (log 2). -/
def Obligations.ResetIsWellFormed : Prop :=
  (∀ (c : Config) (i : Inputs) (p : List Inputs), c.wellFormed = true → (State.resetWith c i p).wf = true) ∧
  State.reset.wf = true

/-- R42: "Its entry point after reset is the state TEST-LOGIC-RESET with IR = IR_RESET", for every valid configuration
and every input. -/
def Obligations.ResetEntryPoint : Prop :=
  ∀ (c : Config) (i : Inputs) (p : List Inputs), c.wellFormed = true →
    (State.resetWith c i p).tap = .tlr ∧ (State.resetWith c i p).ir.width = c.irWidth ∧
    (State.resetWith c i p).ir.toNat = c.irReset

/-- R140, R141 (the zeros of the registers are D2, D3, D4, log 7; TDO 0 in TEST-LOGIC-RESET is D10, log 10): the other
registers and the outputs in tick 0 (the outputs also where a system reset is applied in it: log 28). -/
def Obligations.ResetRegistersAndOutputs : Prop :=
  ∀ (c : Config) (i : Inputs) (p : List Inputs) (s : State), s = State.resetWith c i p →
    s.dr = Word.zero c.drWidth ∧ s.wr = c.ports.map (fun q => Word.zero q.width) ∧
    s.tckS1 = false ∧ s.tckS2 = false ∧ s.tmsS1 = false ∧ s.tmsS2 = false ∧ s.tdiS1 = false ∧ s.tdiS2 = false ∧
    s.tckPrev = false ∧ s.settledLow = false ∧ s.sampledMode = false ∧ s.sampledData = false ∧
    s.rising = false ∧ s.falling = false ∧ s.tdo = false ∧
    ∀ k, k < c.ports.length → s.outputs.ports[k]? =
      some { capture := false, update := false, reset := true, writeBus := Word.zero (portWidth c k) }

/-- R139 (the spec's choice D15, log 6; the zeros among the reset values are D2, D3, D4, log 7): a system reset puts every
register at its reset value in the next tick,
whatever else the tick would do. -/
def Obligations.SystemResetOverridesEverything : Prop :=
  ∀ s : State, s.cfg.wellFormed = true → s.inp.systemReset = true →
    ∃ t, step s = .next t ∧ t.cfg = s.cfg ∧
      ∀ i p, SameRegisters (State.resetWith s.cfg i p) t

/-! ### Whole-machine properties -/

/-- R102, R144: in a run without a system reset whose `falling` ticks all have `sampled_mode` = 1, five of them from any
state put the state in TEST-LOGIC-RESET and further ones keep it there; the following tick has IR = IR_RESET. -/
def Obligations.FiveModeOnesReachReset : Prop :=
  ∀ (s u : State) (trace : List State), Ticks s trace u → Uninterrupted trace →
    (∀ m ∈ fallingModes trace, m = true) → 5 ≤ (fallingModes trace).length →
    u.tap = .tlr ∧ (u.noSystemReset → ∃ v, step u = .next v ∧ v.ir.toNat = v.cfg.irReset)

/-- R102's table (derived there): the number of mode-1 cycles each state needs to reach TEST-LOGIC-RESET. -/
def Obligations.ModeOneCyclesNeeded : Prop :=
  ∀ (S : TapState) (n : Nat),
    (fun T => nextState T true)^[n] S = .tlr ↔
      (match S with
        | .tlr => 0
        | .selir => 1
        | .seldr => 2
        | .rti | .updr | .upir => 3
        | .ex1dr | .ex2dr | .ex1ir | .ex2ir => 4
        | .capdr | .shdr | .padr | .capir | .shir | .pair => 5) ≤ n

/-- R103 (derived there): every state is reached from TEST-LOGIC-RESET by some modes. -/
def Obligations.EveryStateIsReachable : Prop :=
  ∀ S : TapState, ∃ modes : List Bool, modes.foldl nextState .tlr = S

/-- R51 (derived there): between SHIFT-DR and a later CAPTURE-DR lies a tick of UPDATE-DR or TEST-LOGIC-RESET. -/
def Obligations.NoCaptureAfterShiftWithoutUpdate : Prop :=
  ∀ (s u : State) (trace : List State), Ticks s trace u → Uninterrupted trace → s.tap = .shdr → u.tap = .capdr →
    ∃ x ∈ trace, x.tap = .updr ∨ x.tap = .tlr

/-- R51 (derived there): from CAPTURE-DR to UPDATE-DR, with no other capture and no TEST-LOGIC-RESET in between, IR does
not change, so the capture and the update of one scan address the same port. -/
def Obligations.OneScanAddressesOnePort : Prop :=
  ∀ (s t u : State) (trace : List State), s.tap = .capdr → s.noSystemReset → step s = .next t → Ticks t trace u →
    Uninterrupted trace → (∀ x ∈ trace, x.tap ≠ .tlr ∧ x.tap ≠ .updr) → u.tap = .updr →
    u.ir = s.ir ∧ u.sel = s.sel

/-- R58 (derived there): what consecutive shift cycles leave in IR, and in the addressed window of DR: the stream of the
old bits and then the sent bits, seen `n` places further; the higher bits of DR are untouched. -/
def Obligations.ShiftCyclesAssembleAValue : Prop :=
  ∀ (s : State) (ds : List Bool), s.wf = true →
    (s.tap = .shir → ∃ t, runCycles (ds.map fun d => ⟨false, d⟩) s = .next t ∧ t.ir.width = s.ir.width ∧
      ∀ i, i < s.ir.width → t.ir.bit i =
        if i + ds.length < s.ir.width then s.ir.bit (i + ds.length)
        else ds.getD (i + ds.length - s.ir.width) false) ∧
    (∀ k, s.tap = .shdr → s.sel = some k →
      ∃ t, runCycles (ds.map fun d => ⟨false, d⟩) s = .next t ∧ t.dr.width = s.dr.width ∧
        (∀ i, i < portWidth s.cfg k → t.dr.bit i =
          if i + ds.length < portWidth s.cfg k then s.dr.bit (i + ds.length)
          else ds.getD (i + ds.length - portWidth s.cfg k) false) ∧
        (∀ i, portWidth s.cfg k ≤ i → t.dr.bit i = s.dr.bit i))

/-- R64, IRSCAN v (derived there): from RUN-TEST-IDLE it ends there with IR = v and every other register as before; its
shift cycles show the previous IR on TDO, bit 0 first (no pattern is captured: the spec's decision D12, log 12). -/
def Obligations.IrScanLoadsTheCode : Prop :=
  ∀ (s : State) (v : Word), s.tap = .rti → v.width = s.ir.width → 1 ≤ v.width →
    runCycles (irScan v) s = .next { s with ir := v } ∧
    ((cyclesTdo (irScan v) s).drop 4).take v.width = (List.range v.width).map s.ir.bit

/-- R64, DRSCAN w v with w = w_k under an addressed code (derived there): from RUN-TEST-IDLE it ends there with v in the
addressed port's write register and in the low bits of DR (zeros above: D8, log 8), and every other register as before;
its shift cycles show the captured read bus on TDO, bit 0 first. -/
def Obligations.DrScanReadsAndWritesThePort : Prop :=
  ∀ (s : State) (v : Word) (k : Nat), s.wf = true → s.tap = .rti → s.sel = some k → v.width = portWidth s.cfg k →
    runCycles (drScan v) s = .next { s with wr := s.wr.set k v, dr := v.resize s.cfg.drWidth } ∧
    ((cyclesTdo (drScan v) s).drop 3).take v.width = (List.range v.width).map (s.readBus k).bit

/-- R41 (the stale DR is D9, log 9): a DR scan of any length under an unaddressed code leaves the machine exactly as it
was. -/
def Obligations.UnaddressedScanIsANoOp : Prop :=
  ∀ (s : State) (v : Word), s.tap = .rti → s.sel = none → 1 ≤ v.width → runCycles (drScan v) s = .next s

/-- R16, R63, R105, R146: the ticks refine the protocol. A block at rest, driven with the pin waveform of any program
with phases of any length from one tick on, and then with TCK low for three ticks, ends with the state, DR, write
registers and (outside TEST-LOGIC-RESET, where IR is reloaded in every tick) IR that the protocol gives. -/
def Obligations.PinWaveformRunsTheProgram : Prop :=
  ∀ (s t : State) (cs : List Cycle) (bus : List Nat) (lo hi : Nat) (tail rest : List Inputs),
    s.cfg.wellFormed = true → 1 ≤ lo → 1 ≤ hi → s.cfg.ports.length ≤ bus.length →
    s.tckS1 = false → s.tckS2 = false → s.tckPrev = false →
    tail.length = 3 → (∀ i ∈ tail, i.tck = false ∧ i.systemReset = false ∧ i.readBus = bus) →
    s.inp :: s.pending = programWaveform cs bus lo hi ++ tail ++ rest →
    runCycles cs s = .next t →
    ∃ trace u, Ticks s trace u ∧ trace.length = cs.length * (lo + hi) + 3 ∧
      u.tap = t.tap ∧ u.dr = t.dr ∧ u.wr = t.wr ∧ (t.tap ≠ .tlr → u.ir = t.ir)

/-- R63, R81, R105, R146 (the host's sampling point is D21, TDO outside the shift states D10): TDO over the ticks of such
a run is what the cycles of the program report, each for one cycle's length, three ticks behind the pins; so a host that
keeps TCK low for at least three ticks reads, in the tick in which it raises TCK, the TDO that the cycle reports. -/
def Obligations.PinWaveformReportsTdo : Prop :=
  ∀ (s : State) (cs : List Cycle) (bus : List Nat) (lo hi : Nat) (tail rest : List Inputs),
    s.cfg.wellFormed = true → 1 ≤ lo → 1 ≤ hi → s.cfg.ports.length ≤ bus.length →
    s.tckS1 = false → s.tckS2 = false → s.tckPrev = false →
    tail.length = 3 → (∀ i ∈ tail, i.tck = false ∧ i.systemReset = false ∧ i.readBus = bus) →
    s.inp :: s.pending = programWaveform cs bus lo hi ++ tail ++ rest →
    ∃ trace u, Ticks s trace u ∧ trace.length = cs.length * (lo + hi) + 3 ∧
      trace.map State.tdo =
        List.replicate 3 s.tdo ++ (cyclesTdo cs s).flatMap (fun b => List.replicate (lo + hi) b) ∧
      (3 ≤ lo → ∀ j, j < cs.length → (trace.map State.tdo)[j * (lo + hi) + lo]? = (cyclesTdo cs s)[j]?)

/-- R64: TLR5 ends in TEST-LOGIC-RESET from every state, and IDLE in RUN-TEST-IDLE from the four states it is for. -/
def Obligations.Tlr5AndIdleEndWhereTheyShould : Prop :=
  (∀ s : State, ∃ t, runCycles tlr5 s = .next t ∧ t.tap = .tlr) ∧
  (∀ s : State, s.tap ∈ [TapState.tlr, .updr, .upir, .rti] → ∃ t, runCycles idle s = .next t ∧ t.tap = .rti)
end

