-- ==== Sys2Proof/Laws/Decode.lean ====
section
/-! SUPPORT. The state codes and the fields of the cycle word. -/

namespace Sys2Proof

@[simp] theorem TapState.ofCode_code (S : TapState) : TapState.ofCode S.code = S := by cases S <;> rfl

@[simp] theorem Instr.tapState_ofState (S : TapState) (m d : Bool) : (Instr.ofState S m d).tapState = S := by
  cases S <;> rfl

@[simp] theorem Instr.mode_ofState (S : TapState) (m d : Bool) : (Instr.ofState S m d).mode = m := by
  cases S <;> rfl

@[simp] theorem Instr.data_ofState (S : TapState) (m d : Bool) : (Instr.ofState S m d).data = d := by
  cases S <;> rfl

@[simp] theorem Instr.ofState_fields (i : Instr) : Instr.ofState i.tapState i.mode i.data = i := by cases i <;> rfl

/-- The decoder takes the fields of a cycle word apart as R56 puts them together. -/
@[simp] theorem decodeCycle_cycleWordOf (S : TapState) (m d : Bool) :
    decodeCycle (cycleWordOf S m d) = Instr.ofState S m d := by
  cases S <;> cases m <;> cases d <;> rfl

end Sys2Proof
end

