-- ==== Sys2Proof/Laws/State.lean ====
section
/-! SUPPORT. For every update of State, the value of every field after it, as simp lemmas: no later proof unfolds a
record update. An update that depends on the addressed port has its case equations in Laws/Ops.lean. -/

namespace Sys2Proof.Machine.State

/-! ### resetRegisters -/

@[simp] theorem resetRegisters_cfg (s : State) : (s.resetRegisters).cfg = s.cfg := rfl
@[simp] theorem resetRegisters_tap (s : State) : (s.resetRegisters).tap = .tlr := rfl
@[simp] theorem resetRegisters_ir (s : State) : (s.resetRegisters).ir = Word.ofNat s.cfg.irWidth s.cfg.irReset := rfl
@[simp] theorem resetRegisters_dr (s : State) : (s.resetRegisters).dr = Word.zero s.cfg.drWidth := rfl
@[simp] theorem resetRegisters_wr (s : State) : (s.resetRegisters).wr = s.cfg.ports.map (fun p => Word.zero p.width) := rfl
@[simp] theorem resetRegisters_tckS1 (s : State) : (s.resetRegisters).tckS1 = false := rfl
@[simp] theorem resetRegisters_tckS2 (s : State) : (s.resetRegisters).tckS2 = false := rfl
@[simp] theorem resetRegisters_tmsS1 (s : State) : (s.resetRegisters).tmsS1 = false := rfl
@[simp] theorem resetRegisters_tmsS2 (s : State) : (s.resetRegisters).tmsS2 = false := rfl
@[simp] theorem resetRegisters_tdiS1 (s : State) : (s.resetRegisters).tdiS1 = false := rfl
@[simp] theorem resetRegisters_tdiS2 (s : State) : (s.resetRegisters).tdiS2 = false := rfl
@[simp] theorem resetRegisters_tckPrev (s : State) : (s.resetRegisters).tckPrev = false := rfl
@[simp] theorem resetRegisters_settledLow (s : State) : (s.resetRegisters).settledLow = false := rfl
@[simp] theorem resetRegisters_sampledMode (s : State) : (s.resetRegisters).sampledMode = false := rfl
@[simp] theorem resetRegisters_sampledData (s : State) : (s.resetRegisters).sampledData = false := rfl
@[simp] theorem resetRegisters_inp (s : State) : (s.resetRegisters).inp = s.inp := rfl
@[simp] theorem resetRegisters_pending (s : State) : (s.resetRegisters).pending = s.pending := rfl
@[simp] theorem resetRegisters_tick (s : State) : (s.resetRegisters).tick = s.tick := rfl

/-! ### resetWith -/

@[simp] theorem resetWith_cfg (c : Config) (i : Inputs) (p : List Inputs) : (resetWith c i p).cfg = c := rfl
@[simp] theorem resetWith_tap (c : Config) (i : Inputs) (p : List Inputs) : (resetWith c i p).tap = .tlr := rfl
@[simp] theorem resetWith_ir (c : Config) (i : Inputs) (p : List Inputs) : (resetWith c i p).ir = Word.ofNat c.irWidth c.irReset := rfl
@[simp] theorem resetWith_dr (c : Config) (i : Inputs) (p : List Inputs) : (resetWith c i p).dr = Word.zero c.drWidth := rfl
@[simp] theorem resetWith_wr (c : Config) (i : Inputs) (p : List Inputs) : (resetWith c i p).wr = c.ports.map (fun p => Word.zero p.width) := rfl
@[simp] theorem resetWith_tckS1 (c : Config) (i : Inputs) (p : List Inputs) : (resetWith c i p).tckS1 = false := rfl
@[simp] theorem resetWith_tckS2 (c : Config) (i : Inputs) (p : List Inputs) : (resetWith c i p).tckS2 = false := rfl
@[simp] theorem resetWith_tmsS1 (c : Config) (i : Inputs) (p : List Inputs) : (resetWith c i p).tmsS1 = false := rfl
@[simp] theorem resetWith_tmsS2 (c : Config) (i : Inputs) (p : List Inputs) : (resetWith c i p).tmsS2 = false := rfl
@[simp] theorem resetWith_tdiS1 (c : Config) (i : Inputs) (p : List Inputs) : (resetWith c i p).tdiS1 = false := rfl
@[simp] theorem resetWith_tdiS2 (c : Config) (i : Inputs) (p : List Inputs) : (resetWith c i p).tdiS2 = false := rfl
@[simp] theorem resetWith_tckPrev (c : Config) (i : Inputs) (p : List Inputs) : (resetWith c i p).tckPrev = false := rfl
@[simp] theorem resetWith_settledLow (c : Config) (i : Inputs) (p : List Inputs) : (resetWith c i p).settledLow = false := rfl
@[simp] theorem resetWith_sampledMode (c : Config) (i : Inputs) (p : List Inputs) : (resetWith c i p).sampledMode = false := rfl
@[simp] theorem resetWith_sampledData (c : Config) (i : Inputs) (p : List Inputs) : (resetWith c i p).sampledData = false := rfl
@[simp] theorem resetWith_inp (c : Config) (i : Inputs) (p : List Inputs) : (resetWith c i p).inp = i := rfl
@[simp] theorem resetWith_pending (c : Config) (i : Inputs) (p : List Inputs) : (resetWith c i p).pending = p := rfl
@[simp] theorem resetWith_tick (c : Config) (i : Inputs) (p : List Inputs) : (resetWith c i p).tick = 0 := rfl

/-! ### transition -/

@[simp] theorem transition_cfg (s : State) (S : TapState) (m : Bool) : (s.transition S m).cfg = s.cfg := rfl
@[simp] theorem transition_tap (s : State) (S : TapState) (m : Bool) : (s.transition S m).tap = nextState S m := rfl
@[simp] theorem transition_ir (s : State) (S : TapState) (m : Bool) : (s.transition S m).ir = s.ir := rfl
@[simp] theorem transition_dr (s : State) (S : TapState) (m : Bool) : (s.transition S m).dr = s.dr := rfl
@[simp] theorem transition_wr (s : State) (S : TapState) (m : Bool) : (s.transition S m).wr = s.wr := rfl
@[simp] theorem transition_tckS1 (s : State) (S : TapState) (m : Bool) : (s.transition S m).tckS1 = s.tckS1 := rfl
@[simp] theorem transition_tckS2 (s : State) (S : TapState) (m : Bool) : (s.transition S m).tckS2 = s.tckS2 := rfl
@[simp] theorem transition_tmsS1 (s : State) (S : TapState) (m : Bool) : (s.transition S m).tmsS1 = s.tmsS1 := rfl
@[simp] theorem transition_tmsS2 (s : State) (S : TapState) (m : Bool) : (s.transition S m).tmsS2 = s.tmsS2 := rfl
@[simp] theorem transition_tdiS1 (s : State) (S : TapState) (m : Bool) : (s.transition S m).tdiS1 = s.tdiS1 := rfl
@[simp] theorem transition_tdiS2 (s : State) (S : TapState) (m : Bool) : (s.transition S m).tdiS2 = s.tdiS2 := rfl
@[simp] theorem transition_tckPrev (s : State) (S : TapState) (m : Bool) : (s.transition S m).tckPrev = s.tckPrev := rfl
@[simp] theorem transition_settledLow (s : State) (S : TapState) (m : Bool) : (s.transition S m).settledLow = s.settledLow := rfl
@[simp] theorem transition_sampledMode (s : State) (S : TapState) (m : Bool) : (s.transition S m).sampledMode = s.sampledMode := rfl
@[simp] theorem transition_sampledData (s : State) (S : TapState) (m : Bool) : (s.transition S m).sampledData = s.sampledData := rfl
@[simp] theorem transition_inp (s : State) (S : TapState) (m : Bool) : (s.transition S m).inp = s.inp := rfl
@[simp] theorem transition_pending (s : State) (S : TapState) (m : Bool) : (s.transition S m).pending = s.pending := rfl
@[simp] theorem transition_tick (s : State) (S : TapState) (m : Bool) : (s.transition S m).tick = s.tick := rfl

/-! ### reloadIr -/

@[simp] theorem reloadIr_cfg (s : State) : (s.reloadIr).cfg = s.cfg := rfl
@[simp] theorem reloadIr_tap (s : State) : (s.reloadIr).tap = s.tap := rfl
@[simp] theorem reloadIr_ir (s : State) : (s.reloadIr).ir = Word.ofNat s.cfg.irWidth s.cfg.irReset := rfl
@[simp] theorem reloadIr_dr (s : State) : (s.reloadIr).dr = s.dr := rfl
@[simp] theorem reloadIr_wr (s : State) : (s.reloadIr).wr = s.wr := rfl
@[simp] theorem reloadIr_tckS1 (s : State) : (s.reloadIr).tckS1 = s.tckS1 := rfl
@[simp] theorem reloadIr_tckS2 (s : State) : (s.reloadIr).tckS2 = s.tckS2 := rfl
@[simp] theorem reloadIr_tmsS1 (s : State) : (s.reloadIr).tmsS1 = s.tmsS1 := rfl
@[simp] theorem reloadIr_tmsS2 (s : State) : (s.reloadIr).tmsS2 = s.tmsS2 := rfl
@[simp] theorem reloadIr_tdiS1 (s : State) : (s.reloadIr).tdiS1 = s.tdiS1 := rfl
@[simp] theorem reloadIr_tdiS2 (s : State) : (s.reloadIr).tdiS2 = s.tdiS2 := rfl
@[simp] theorem reloadIr_tckPrev (s : State) : (s.reloadIr).tckPrev = s.tckPrev := rfl
@[simp] theorem reloadIr_settledLow (s : State) : (s.reloadIr).settledLow = s.settledLow := rfl
@[simp] theorem reloadIr_sampledMode (s : State) : (s.reloadIr).sampledMode = s.sampledMode := rfl
@[simp] theorem reloadIr_sampledData (s : State) : (s.reloadIr).sampledData = s.sampledData := rfl
@[simp] theorem reloadIr_inp (s : State) : (s.reloadIr).inp = s.inp := rfl
@[simp] theorem reloadIr_pending (s : State) : (s.reloadIr).pending = s.pending := rfl
@[simp] theorem reloadIr_tick (s : State) : (s.reloadIr).tick = s.tick := rfl

/-! ### shiftIr -/

@[simp] theorem shiftIr_cfg (s : State) (d : Bool) : (s.shiftIr d).cfg = s.cfg := rfl
@[simp] theorem shiftIr_tap (s : State) (d : Bool) : (s.shiftIr d).tap = s.tap := rfl
@[simp] theorem shiftIr_ir (s : State) (d : Bool) : (s.shiftIr d).ir = s.ir.shiftWithin s.ir.width d := rfl
@[simp] theorem shiftIr_dr (s : State) (d : Bool) : (s.shiftIr d).dr = s.dr := rfl
@[simp] theorem shiftIr_wr (s : State) (d : Bool) : (s.shiftIr d).wr = s.wr := rfl
@[simp] theorem shiftIr_tckS1 (s : State) (d : Bool) : (s.shiftIr d).tckS1 = s.tckS1 := rfl
@[simp] theorem shiftIr_tckS2 (s : State) (d : Bool) : (s.shiftIr d).tckS2 = s.tckS2 := rfl
@[simp] theorem shiftIr_tmsS1 (s : State) (d : Bool) : (s.shiftIr d).tmsS1 = s.tmsS1 := rfl
@[simp] theorem shiftIr_tmsS2 (s : State) (d : Bool) : (s.shiftIr d).tmsS2 = s.tmsS2 := rfl
@[simp] theorem shiftIr_tdiS1 (s : State) (d : Bool) : (s.shiftIr d).tdiS1 = s.tdiS1 := rfl
@[simp] theorem shiftIr_tdiS2 (s : State) (d : Bool) : (s.shiftIr d).tdiS2 = s.tdiS2 := rfl
@[simp] theorem shiftIr_tckPrev (s : State) (d : Bool) : (s.shiftIr d).tckPrev = s.tckPrev := rfl
@[simp] theorem shiftIr_settledLow (s : State) (d : Bool) : (s.shiftIr d).settledLow = s.settledLow := rfl
@[simp] theorem shiftIr_sampledMode (s : State) (d : Bool) : (s.shiftIr d).sampledMode = s.sampledMode := rfl
@[simp] theorem shiftIr_sampledData (s : State) (d : Bool) : (s.shiftIr d).sampledData = s.sampledData := rfl
@[simp] theorem shiftIr_inp (s : State) (d : Bool) : (s.shiftIr d).inp = s.inp := rfl
@[simp] theorem shiftIr_pending (s : State) (d : Bool) : (s.shiftIr d).pending = s.pending := rfl
@[simp] theorem shiftIr_tick (s : State) (d : Bool) : (s.shiftIr d).tick = s.tick := rfl

/-! ### captureDr -/

@[simp] theorem captureDr_cfg (s : State) : (s.captureDr).cfg = s.cfg := by
  unfold captureDr; split <;> rfl
@[simp] theorem captureDr_tap (s : State) : (s.captureDr).tap = s.tap := by
  unfold captureDr; split <;> rfl
@[simp] theorem captureDr_ir (s : State) : (s.captureDr).ir = s.ir := by
  unfold captureDr; split <;> rfl
@[simp] theorem captureDr_wr (s : State) : (s.captureDr).wr = s.wr := by
  unfold captureDr; split <;> rfl
@[simp] theorem captureDr_tckS1 (s : State) : (s.captureDr).tckS1 = s.tckS1 := by
  unfold captureDr; split <;> rfl
@[simp] theorem captureDr_tckS2 (s : State) : (s.captureDr).tckS2 = s.tckS2 := by
  unfold captureDr; split <;> rfl
@[simp] theorem captureDr_tmsS1 (s : State) : (s.captureDr).tmsS1 = s.tmsS1 := by
  unfold captureDr; split <;> rfl
@[simp] theorem captureDr_tmsS2 (s : State) : (s.captureDr).tmsS2 = s.tmsS2 := by
  unfold captureDr; split <;> rfl
@[simp] theorem captureDr_tdiS1 (s : State) : (s.captureDr).tdiS1 = s.tdiS1 := by
  unfold captureDr; split <;> rfl
@[simp] theorem captureDr_tdiS2 (s : State) : (s.captureDr).tdiS2 = s.tdiS2 := by
  unfold captureDr; split <;> rfl
@[simp] theorem captureDr_tckPrev (s : State) : (s.captureDr).tckPrev = s.tckPrev := by
  unfold captureDr; split <;> rfl
@[simp] theorem captureDr_settledLow (s : State) : (s.captureDr).settledLow = s.settledLow := by
  unfold captureDr; split <;> rfl
@[simp] theorem captureDr_sampledMode (s : State) : (s.captureDr).sampledMode = s.sampledMode := by
  unfold captureDr; split <;> rfl
@[simp] theorem captureDr_sampledData (s : State) : (s.captureDr).sampledData = s.sampledData := by
  unfold captureDr; split <;> rfl
@[simp] theorem captureDr_inp (s : State) : (s.captureDr).inp = s.inp := by
  unfold captureDr; split <;> rfl
@[simp] theorem captureDr_pending (s : State) : (s.captureDr).pending = s.pending := by
  unfold captureDr; split <;> rfl
@[simp] theorem captureDr_tick (s : State) : (s.captureDr).tick = s.tick := by
  unfold captureDr; split <;> rfl

/-! ### shiftDr -/

@[simp] theorem shiftDr_cfg (s : State) (d : Bool) : (s.shiftDr d).cfg = s.cfg := by
  unfold shiftDr; split <;> rfl
@[simp] theorem shiftDr_tap (s : State) (d : Bool) : (s.shiftDr d).tap = s.tap := by
  unfold shiftDr; split <;> rfl
@[simp] theorem shiftDr_ir (s : State) (d : Bool) : (s.shiftDr d).ir = s.ir := by
  unfold shiftDr; split <;> rfl
@[simp] theorem shiftDr_wr (s : State) (d : Bool) : (s.shiftDr d).wr = s.wr := by
  unfold shiftDr; split <;> rfl
@[simp] theorem shiftDr_tckS1 (s : State) (d : Bool) : (s.shiftDr d).tckS1 = s.tckS1 := by
  unfold shiftDr; split <;> rfl
@[simp] theorem shiftDr_tckS2 (s : State) (d : Bool) : (s.shiftDr d).tckS2 = s.tckS2 := by
  unfold shiftDr; split <;> rfl
@[simp] theorem shiftDr_tmsS1 (s : State) (d : Bool) : (s.shiftDr d).tmsS1 = s.tmsS1 := by
  unfold shiftDr; split <;> rfl
@[simp] theorem shiftDr_tmsS2 (s : State) (d : Bool) : (s.shiftDr d).tmsS2 = s.tmsS2 := by
  unfold shiftDr; split <;> rfl
@[simp] theorem shiftDr_tdiS1 (s : State) (d : Bool) : (s.shiftDr d).tdiS1 = s.tdiS1 := by
  unfold shiftDr; split <;> rfl
@[simp] theorem shiftDr_tdiS2 (s : State) (d : Bool) : (s.shiftDr d).tdiS2 = s.tdiS2 := by
  unfold shiftDr; split <;> rfl
@[simp] theorem shiftDr_tckPrev (s : State) (d : Bool) : (s.shiftDr d).tckPrev = s.tckPrev := by
  unfold shiftDr; split <;> rfl
@[simp] theorem shiftDr_settledLow (s : State) (d : Bool) : (s.shiftDr d).settledLow = s.settledLow := by
  unfold shiftDr; split <;> rfl
@[simp] theorem shiftDr_sampledMode (s : State) (d : Bool) : (s.shiftDr d).sampledMode = s.sampledMode := by
  unfold shiftDr; split <;> rfl
@[simp] theorem shiftDr_sampledData (s : State) (d : Bool) : (s.shiftDr d).sampledData = s.sampledData := by
  unfold shiftDr; split <;> rfl
@[simp] theorem shiftDr_inp (s : State) (d : Bool) : (s.shiftDr d).inp = s.inp := by
  unfold shiftDr; split <;> rfl
@[simp] theorem shiftDr_pending (s : State) (d : Bool) : (s.shiftDr d).pending = s.pending := by
  unfold shiftDr; split <;> rfl
@[simp] theorem shiftDr_tick (s : State) (d : Bool) : (s.shiftDr d).tick = s.tick := by
  unfold shiftDr; split <;> rfl

/-! ### updateWr -/

@[simp] theorem updateWr_cfg (s : State) : (s.updateWr).cfg = s.cfg := by
  unfold updateWr; split <;> rfl
@[simp] theorem updateWr_tap (s : State) : (s.updateWr).tap = s.tap := by
  unfold updateWr; split <;> rfl
@[simp] theorem updateWr_ir (s : State) : (s.updateWr).ir = s.ir := by
  unfold updateWr; split <;> rfl
@[simp] theorem updateWr_dr (s : State) : (s.updateWr).dr = s.dr := by
  unfold updateWr; split <;> rfl
@[simp] theorem updateWr_tckS1 (s : State) : (s.updateWr).tckS1 = s.tckS1 := by
  unfold updateWr; split <;> rfl
@[simp] theorem updateWr_tckS2 (s : State) : (s.updateWr).tckS2 = s.tckS2 := by
  unfold updateWr; split <;> rfl
@[simp] theorem updateWr_tmsS1 (s : State) : (s.updateWr).tmsS1 = s.tmsS1 := by
  unfold updateWr; split <;> rfl
@[simp] theorem updateWr_tmsS2 (s : State) : (s.updateWr).tmsS2 = s.tmsS2 := by
  unfold updateWr; split <;> rfl
@[simp] theorem updateWr_tdiS1 (s : State) : (s.updateWr).tdiS1 = s.tdiS1 := by
  unfold updateWr; split <;> rfl
@[simp] theorem updateWr_tdiS2 (s : State) : (s.updateWr).tdiS2 = s.tdiS2 := by
  unfold updateWr; split <;> rfl
@[simp] theorem updateWr_tckPrev (s : State) : (s.updateWr).tckPrev = s.tckPrev := by
  unfold updateWr; split <;> rfl
@[simp] theorem updateWr_settledLow (s : State) : (s.updateWr).settledLow = s.settledLow := by
  unfold updateWr; split <;> rfl
@[simp] theorem updateWr_sampledMode (s : State) : (s.updateWr).sampledMode = s.sampledMode := by
  unfold updateWr; split <;> rfl
@[simp] theorem updateWr_sampledData (s : State) : (s.updateWr).sampledData = s.sampledData := by
  unfold updateWr; split <;> rfl
@[simp] theorem updateWr_inp (s : State) : (s.updateWr).inp = s.inp := by
  unfold updateWr; split <;> rfl
@[simp] theorem updateWr_pending (s : State) : (s.updateWr).pending = s.pending := by
  unfold updateWr; split <;> rfl
@[simp] theorem updateWr_tick (s : State) : (s.updateWr).tick = s.tick := by
  unfold updateWr; split <;> rfl

/-! ### idleTick -/

@[simp] theorem idleTick_cfg (s : State) : (s.idleTick).cfg = s.cfg := by
  unfold idleTick; split <;> rfl
@[simp] theorem idleTick_tap (s : State) : (s.idleTick).tap = s.tap := by
  unfold idleTick; split <;> rfl
@[simp] theorem idleTick_ir (s : State) : (s.idleTick).ir = if s.tap = .tlr then Word.ofNat s.cfg.irWidth s.cfg.irReset else s.ir := by
  unfold idleTick; split <;> rfl
@[simp] theorem idleTick_dr (s : State) : (s.idleTick).dr = s.dr := by
  unfold idleTick; split <;> rfl
@[simp] theorem idleTick_wr (s : State) : (s.idleTick).wr = s.wr := by
  unfold idleTick; split <;> rfl
@[simp] theorem idleTick_tckS1 (s : State) : (s.idleTick).tckS1 = s.tckS1 := by
  unfold idleTick; split <;> rfl
@[simp] theorem idleTick_tckS2 (s : State) : (s.idleTick).tckS2 = s.tckS2 := by
  unfold idleTick; split <;> rfl
@[simp] theorem idleTick_tmsS1 (s : State) : (s.idleTick).tmsS1 = s.tmsS1 := by
  unfold idleTick; split <;> rfl
@[simp] theorem idleTick_tmsS2 (s : State) : (s.idleTick).tmsS2 = s.tmsS2 := by
  unfold idleTick; split <;> rfl
@[simp] theorem idleTick_tdiS1 (s : State) : (s.idleTick).tdiS1 = s.tdiS1 := by
  unfold idleTick; split <;> rfl
@[simp] theorem idleTick_tdiS2 (s : State) : (s.idleTick).tdiS2 = s.tdiS2 := by
  unfold idleTick; split <;> rfl
@[simp] theorem idleTick_tckPrev (s : State) : (s.idleTick).tckPrev = s.tckPrev := by
  unfold idleTick; split <;> rfl
@[simp] theorem idleTick_settledLow (s : State) : (s.idleTick).settledLow = s.settledLow := by
  unfold idleTick; split <;> rfl
@[simp] theorem idleTick_sampledMode (s : State) : (s.idleTick).sampledMode = s.sampledMode := by
  unfold idleTick; split <;> rfl
@[simp] theorem idleTick_sampledData (s : State) : (s.idleTick).sampledData = s.sampledData := by
  unfold idleTick; split <;> rfl
@[simp] theorem idleTick_inp (s : State) : (s.idleTick).inp = s.inp := by
  unfold idleTick; split <;> rfl
@[simp] theorem idleTick_pending (s : State) : (s.idleTick).pending = s.pending := by
  unfold idleTick; split <;> rfl
@[simp] theorem idleTick_tick (s : State) : (s.idleTick).tick = s.tick := by
  unfold idleTick; split <;> rfl

/-! ### clockFrontEnd -/

@[simp] theorem clockFrontEnd_cfg (s : State) : (s.clockFrontEnd).cfg = s.cfg := rfl
@[simp] theorem clockFrontEnd_tap (s : State) : (s.clockFrontEnd).tap = s.tap := rfl
@[simp] theorem clockFrontEnd_ir (s : State) : (s.clockFrontEnd).ir = s.ir := rfl
@[simp] theorem clockFrontEnd_dr (s : State) : (s.clockFrontEnd).dr = s.dr := rfl
@[simp] theorem clockFrontEnd_wr (s : State) : (s.clockFrontEnd).wr = s.wr := rfl
@[simp] theorem clockFrontEnd_tckS1 (s : State) : (s.clockFrontEnd).tckS1 = s.inp.tck := rfl
@[simp] theorem clockFrontEnd_tckS2 (s : State) : (s.clockFrontEnd).tckS2 = s.tckS1 := rfl
@[simp] theorem clockFrontEnd_tmsS1 (s : State) : (s.clockFrontEnd).tmsS1 = s.inp.tms := rfl
@[simp] theorem clockFrontEnd_tmsS2 (s : State) : (s.clockFrontEnd).tmsS2 = s.tmsS1 := rfl
@[simp] theorem clockFrontEnd_tdiS1 (s : State) : (s.clockFrontEnd).tdiS1 = s.inp.tdi := rfl
@[simp] theorem clockFrontEnd_tdiS2 (s : State) : (s.clockFrontEnd).tdiS2 = s.tdiS1 := rfl
@[simp] theorem clockFrontEnd_tckPrev (s : State) : (s.clockFrontEnd).tckPrev = s.tckS2 := rfl
@[simp] theorem clockFrontEnd_settledLow (s : State) : (s.clockFrontEnd).settledLow = s.falling := rfl
@[simp] theorem clockFrontEnd_sampledMode (s : State) : (s.clockFrontEnd).sampledMode = if s.rising then s.tmsS2 else s.sampledMode := rfl
@[simp] theorem clockFrontEnd_sampledData (s : State) : (s.clockFrontEnd).sampledData = if s.rising then s.tdiS2 else s.sampledData := rfl
@[simp] theorem clockFrontEnd_inp (s : State) : (s.clockFrontEnd).inp = s.inp := rfl
@[simp] theorem clockFrontEnd_pending (s : State) : (s.clockFrontEnd).pending = s.pending := rfl
@[simp] theorem clockFrontEnd_tick (s : State) : (s.clockFrontEnd).tick = s.tick := rfl

/-! ### advanceInputs -/

@[simp] theorem advanceInputs_cfg (s : State) : (s.advanceInputs).cfg = s.cfg := by
  unfold advanceInputs; split <;> simp [*]
@[simp] theorem advanceInputs_tap (s : State) : (s.advanceInputs).tap = s.tap := by
  unfold advanceInputs; split <;> simp [*]
@[simp] theorem advanceInputs_ir (s : State) : (s.advanceInputs).ir = s.ir := by
  unfold advanceInputs; split <;> simp [*]
@[simp] theorem advanceInputs_dr (s : State) : (s.advanceInputs).dr = s.dr := by
  unfold advanceInputs; split <;> simp [*]
@[simp] theorem advanceInputs_wr (s : State) : (s.advanceInputs).wr = s.wr := by
  unfold advanceInputs; split <;> simp [*]
@[simp] theorem advanceInputs_tckS1 (s : State) : (s.advanceInputs).tckS1 = s.tckS1 := by
  unfold advanceInputs; split <;> simp [*]
@[simp] theorem advanceInputs_tckS2 (s : State) : (s.advanceInputs).tckS2 = s.tckS2 := by
  unfold advanceInputs; split <;> simp [*]
@[simp] theorem advanceInputs_tmsS1 (s : State) : (s.advanceInputs).tmsS1 = s.tmsS1 := by
  unfold advanceInputs; split <;> simp [*]
@[simp] theorem advanceInputs_tmsS2 (s : State) : (s.advanceInputs).tmsS2 = s.tmsS2 := by
  unfold advanceInputs; split <;> simp [*]
@[simp] theorem advanceInputs_tdiS1 (s : State) : (s.advanceInputs).tdiS1 = s.tdiS1 := by
  unfold advanceInputs; split <;> simp [*]
@[simp] theorem advanceInputs_tdiS2 (s : State) : (s.advanceInputs).tdiS2 = s.tdiS2 := by
  unfold advanceInputs; split <;> simp [*]
@[simp] theorem advanceInputs_tckPrev (s : State) : (s.advanceInputs).tckPrev = s.tckPrev := by
  unfold advanceInputs; split <;> simp [*]
@[simp] theorem advanceInputs_settledLow (s : State) : (s.advanceInputs).settledLow = s.settledLow := by
  unfold advanceInputs; split <;> simp [*]
@[simp] theorem advanceInputs_sampledMode (s : State) : (s.advanceInputs).sampledMode = s.sampledMode := by
  unfold advanceInputs; split <;> simp [*]
@[simp] theorem advanceInputs_sampledData (s : State) : (s.advanceInputs).sampledData = s.sampledData := by
  unfold advanceInputs; split <;> simp [*]
@[simp] theorem advanceInputs_inp (s : State) : (s.advanceInputs).inp = s.pending.head?.getD (Config.freeInputs (s.tick + 1)) := by
  unfold advanceInputs; split <;> simp [*]
@[simp] theorem advanceInputs_pending (s : State) : (s.advanceInputs).pending = s.pending.tail := by
  unfold advanceInputs; split <;> simp [*]
@[simp] theorem advanceInputs_tick (s : State) : (s.advanceInputs).tick = s.tick + 1 := by
  unfold advanceInputs; split <;> simp [*]

/-! ### finishTick -/

@[simp] theorem finishTick_cfg (s : State) : (s.finishTick).cfg = s.cfg := by
  simp [finishTick]
@[simp] theorem finishTick_tap (s : State) : (s.finishTick).tap = s.tap := by
  simp [finishTick]
@[simp] theorem finishTick_ir (s : State) : (s.finishTick).ir = s.ir := by
  simp [finishTick]
@[simp] theorem finishTick_dr (s : State) : (s.finishTick).dr = s.dr := by
  simp [finishTick]
@[simp] theorem finishTick_wr (s : State) : (s.finishTick).wr = s.wr := by
  simp [finishTick]
@[simp] theorem finishTick_tckS1 (s : State) : (s.finishTick).tckS1 = s.inp.tck := by
  simp [finishTick]
@[simp] theorem finishTick_tckS2 (s : State) : (s.finishTick).tckS2 = s.tckS1 := by
  simp [finishTick]
@[simp] theorem finishTick_tmsS1 (s : State) : (s.finishTick).tmsS1 = s.inp.tms := by
  simp [finishTick]
@[simp] theorem finishTick_tmsS2 (s : State) : (s.finishTick).tmsS2 = s.tmsS1 := by
  simp [finishTick]
@[simp] theorem finishTick_tdiS1 (s : State) : (s.finishTick).tdiS1 = s.inp.tdi := by
  simp [finishTick]
@[simp] theorem finishTick_tdiS2 (s : State) : (s.finishTick).tdiS2 = s.tdiS1 := by
  simp [finishTick]
@[simp] theorem finishTick_tckPrev (s : State) : (s.finishTick).tckPrev = s.tckS2 := by
  simp [finishTick]
@[simp] theorem finishTick_settledLow (s : State) : (s.finishTick).settledLow = s.falling := by
  simp [finishTick]
@[simp] theorem finishTick_sampledMode (s : State) : (s.finishTick).sampledMode = if s.rising then s.tmsS2 else s.sampledMode := by
  simp [finishTick]
@[simp] theorem finishTick_sampledData (s : State) : (s.finishTick).sampledData = if s.rising then s.tdiS2 else s.sampledData := by
  simp [finishTick]
@[simp] theorem finishTick_inp (s : State) : (s.finishTick).inp = s.pending.head?.getD (Config.freeInputs (s.tick + 1)) := by
  simp [finishTick]
@[simp] theorem finishTick_pending (s : State) : (s.finishTick).pending = s.pending.tail := by
  simp [finishTick]
@[simp] theorem finishTick_tick (s : State) : (s.finishTick).tick = s.tick + 1 := by
  simp [finishTick]

/-! ### systemResetTick -/

@[simp] theorem systemResetTick_cfg (s : State) : (s.systemResetTick).cfg = s.cfg := by
  simp [systemResetTick]
@[simp] theorem systemResetTick_tap (s : State) : (s.systemResetTick).tap = .tlr := by
  simp [systemResetTick]
@[simp] theorem systemResetTick_ir (s : State) : (s.systemResetTick).ir = Word.ofNat s.cfg.irWidth s.cfg.irReset := by
  simp [systemResetTick]
@[simp] theorem systemResetTick_dr (s : State) : (s.systemResetTick).dr = Word.zero s.cfg.drWidth := by
  simp [systemResetTick]
@[simp] theorem systemResetTick_wr (s : State) : (s.systemResetTick).wr = s.cfg.ports.map (fun p => Word.zero p.width) := by
  simp [systemResetTick]
@[simp] theorem systemResetTick_tckS1 (s : State) : (s.systemResetTick).tckS1 = false := by
  simp [systemResetTick]
@[simp] theorem systemResetTick_tckS2 (s : State) : (s.systemResetTick).tckS2 = false := by
  simp [systemResetTick]
@[simp] theorem systemResetTick_tmsS1 (s : State) : (s.systemResetTick).tmsS1 = false := by
  simp [systemResetTick]
@[simp] theorem systemResetTick_tmsS2 (s : State) : (s.systemResetTick).tmsS2 = false := by
  simp [systemResetTick]
@[simp] theorem systemResetTick_tdiS1 (s : State) : (s.systemResetTick).tdiS1 = false := by
  simp [systemResetTick]
@[simp] theorem systemResetTick_tdiS2 (s : State) : (s.systemResetTick).tdiS2 = false := by
  simp [systemResetTick]
@[simp] theorem systemResetTick_tckPrev (s : State) : (s.systemResetTick).tckPrev = false := by
  simp [systemResetTick]
@[simp] theorem systemResetTick_settledLow (s : State) : (s.systemResetTick).settledLow = false := by
  simp [systemResetTick]
@[simp] theorem systemResetTick_sampledMode (s : State) : (s.systemResetTick).sampledMode = false := by
  simp [systemResetTick]
@[simp] theorem systemResetTick_sampledData (s : State) : (s.systemResetTick).sampledData = false := by
  simp [systemResetTick]
@[simp] theorem systemResetTick_inp (s : State) : (s.systemResetTick).inp = s.pending.head?.getD (Config.freeInputs (s.tick + 1)) := by
  simp [systemResetTick]
@[simp] theorem systemResetTick_pending (s : State) : (s.systemResetTick).pending = s.pending.tail := by
  simp [systemResetTick]
@[simp] theorem systemResetTick_tick (s : State) : (s.systemResetTick).tick = s.tick + 1 := by
  simp [systemResetTick]

/-! ### withFetchWord -/

@[simp] theorem withFetchWord_cfg (s : State) (n w : Nat) : (s.withFetchWord n w).cfg = s.cfg := rfl
@[simp] theorem withFetchWord_tap (s : State) (n w : Nat) : (s.withFetchWord n w).tap = TapState.ofCode (BitVec.ofNat 4 (w / 4)) := rfl
@[simp] theorem withFetchWord_ir (s : State) (n w : Nat) : (s.withFetchWord n w).ir = s.ir := rfl
@[simp] theorem withFetchWord_dr (s : State) (n w : Nat) : (s.withFetchWord n w).dr = s.dr := rfl
@[simp] theorem withFetchWord_wr (s : State) (n w : Nat) : (s.withFetchWord n w).wr = s.wr := rfl
@[simp] theorem withFetchWord_tckS1 (s : State) (n w : Nat) : (s.withFetchWord n w).tckS1 = s.tckS1 := rfl
@[simp] theorem withFetchWord_tckS2 (s : State) (n w : Nat) : (s.withFetchWord n w).tckS2 = false := rfl
@[simp] theorem withFetchWord_tmsS1 (s : State) (n w : Nat) : (s.withFetchWord n w).tmsS1 = s.tmsS1 := rfl
@[simp] theorem withFetchWord_tmsS2 (s : State) (n w : Nat) : (s.withFetchWord n w).tmsS2 = s.tmsS2 := rfl
@[simp] theorem withFetchWord_tdiS1 (s : State) (n w : Nat) : (s.withFetchWord n w).tdiS1 = s.tdiS1 := rfl
@[simp] theorem withFetchWord_tdiS2 (s : State) (n w : Nat) : (s.withFetchWord n w).tdiS2 = s.tdiS2 := rfl
@[simp] theorem withFetchWord_tckPrev (s : State) (n w : Nat) : (s.withFetchWord n w).tckPrev = true := rfl
@[simp] theorem withFetchWord_settledLow (s : State) (n w : Nat) : (s.withFetchWord n w).settledLow = s.settledLow := rfl
@[simp] theorem withFetchWord_sampledMode (s : State) (n w : Nat) : (s.withFetchWord n w).sampledMode = (BitVec.ofNat 6 w).getLsbD 1 := rfl
@[simp] theorem withFetchWord_sampledData (s : State) (n w : Nat) : (s.withFetchWord n w).sampledData = (BitVec.ofNat 6 w).getLsbD 0 := rfl
@[simp] theorem withFetchWord_inp (s : State) (n w : Nat) : (s.withFetchWord n w).inp = { s.inp with systemReset := false } := rfl
@[simp] theorem withFetchWord_pending (s : State) (n w : Nat) : (s.withFetchWord n w).pending = s.pending := rfl
@[simp] theorem withFetchWord_tick (s : State) (n w : Nat) : (s.withFetchWord n w).tick = s.tick := rfl

end Sys2Proof.Machine.State
end

