-- ==== Sys2Proof/Laws/Word.lean ====
section
/-! SUPPORT. What the word operations do, bit by bit and in width. -/

namespace Sys2Proof.Word

@[simp] theorem width_ofNat (w v : Nat) : (ofNat w v).width = w := rfl
@[simp] theorem width_zero (w : Nat) : (zero w).width = w := rfl
@[simp] theorem width_resize (x : Word) (n : Nat) : (x.resize n).width = n := rfl
@[simp] theorem width_shiftWithin (x : Word) (n : Nat) (d : Bool) : (x.shiftWithin n d).width = x.width := rfl

@[simp] theorem bit_zero (w i : Nat) : (zero w).bit i = false := by simp [zero, bit]

theorem bit_ofNat (w v i : Nat) : (ofNat w v).bit i = (decide (i < w) && v.testBit i) := by
  simp [ofNat, bit, BitVec.getLsbD_ofNat]

theorem toNat_ofNat (w v : Nat) : (ofNat w v).toNat = v % 2 ^ w := by simp [ofNat, toNat]

/-- A bit at or above the width reads 0. -/
theorem bit_of_width_le {x : Word} {i : Nat} (h : x.width ≤ i) : x.bit i = false :=
  BitVec.getLsbD_of_ge x.bits i h

theorem bit_resize (x : Word) (n i : Nat) : (x.resize n).bit i = (decide (i < n) && x.bit i) := by
  simp [resize, bit, BitVec.getLsbD_setWidth]

/-- The shift of R83 says what every bit becomes. -/
theorem bit_shiftWithin (x : Word) (n : Nat) (d : Bool) (i : Nat) :
    (x.shiftWithin n d).bit i =
      if x.width ≤ i then false else if i + 1 < n then x.bit (i + 1) else if i + 1 = n then d else x.bit i := by
  by_cases h : i < x.width
  · simp [shiftWithin, bit, h, Nat.not_le.mpr h]
  · simp [shiftWithin, bit, Nat.not_lt.mp h]

/-- Below the top of a window that fits, every bit takes the bit above it. -/
theorem bit_shiftWithin_below {x : Word} {n i : Nat} (d : Bool) (hn : n ≤ x.width) (hi : i + 1 < n) :
    (x.shiftWithin n d).bit i = x.bit (i + 1) := by
  rw [bit_shiftWithin, if_neg (by omega), if_pos hi]

/-- The top of a window that fits takes the new bit. -/
theorem bit_shiftWithin_top {x : Word} {n : Nat} (d : Bool) (hn : n ≤ x.width) (h : 1 ≤ n) :
    (x.shiftWithin n d).bit (n - 1) = d := by
  rw [bit_shiftWithin, if_neg (by omega), if_neg (by omega), if_pos (by omega)]

/-- Above the window every bit stays. -/
theorem bit_shiftWithin_above {x : Word} {n i : Nat} (d : Bool) (hi : n ≤ i) :
    (x.shiftWithin n d).bit i = x.bit i := by
  rw [bit_shiftWithin, if_neg (show ¬i + 1 < n by omega), if_neg (show ¬i + 1 = n by omega)]
  split
  · rw [bit_of_width_le (by assumption)]
  · rfl

/-- Two words of one width with the same bits are the same word. -/
theorem ext_bits {x y : Word} (hw : x.width = y.width) (hb : ∀ i, i < x.width → x.bit i = y.bit i) : x = y := by
  obtain ⟨w, a⟩ := x
  obtain ⟨v, b⟩ := y
  obtain rfl : w = v := hw
  have : a = b := BitVec.eq_of_getLsbD_eq hb
  rw [this]

end Sys2Proof.Word
end

