-- ==== Sys2Proof/Laws/Ops.lean ====
section
/-! SUPPORT. One lemma for each shared operation that says what it does. -/

namespace Sys2Proof.Machine

/-- The instruction of a tick is the current state's, on the sampled mode and data (R56). -/
theorem State.fetch_eq (s : State) : s.fetch = Instr.ofState s.tap s.sampledMode s.sampledData :=
  decodeCycle_cycleWordOf _ _ _

theorem State.captureDr_of_some {s : State} {k : Nat} (h : s.sel = some k) :
    s.captureDr = { s with dr := (s.readBus k).resize s.cfg.drWidth } := by simp [State.captureDr, h]

theorem State.captureDr_of_none {s : State} (h : s.sel = none) : s.captureDr = s := by simp [State.captureDr, h]

theorem State.shiftDr_of_some {s : State} {k : Nat} (d : Bool) (h : s.sel = some k) :
    s.shiftDr d = { s with dr := s.dr.shiftWithin (portWidth s.cfg k) d } := by simp [State.shiftDr, h]

theorem State.shiftDr_of_none {s : State} (d : Bool) (h : s.sel = none) : s.shiftDr d = s := by
  simp [State.shiftDr, h]

theorem State.updateWr_of_some {s : State} {k : Nat} (h : s.sel = some k) :
    s.updateWr = { s with wr := s.wr.set k (s.dr.resize (portWidth s.cfg k)) } := by simp [State.updateWr, h]

theorem State.updateWr_of_none {s : State} (h : s.sel = none) : s.updateWr = s := by simp [State.updateWr, h]

/-- DR after a capture, by the addressed port. -/
theorem State.captureDr_dr (s : State) :
    s.captureDr.dr = s.sel.elim s.dr (fun k => (s.readBus k).resize s.cfg.drWidth) := by
  cases h : s.sel <;> simp [State.captureDr, h]

/-- DR after a shift, by the addressed port. -/
theorem State.shiftDr_dr (s : State) (d : Bool) :
    (s.shiftDr d).dr = s.sel.elim s.dr (fun k => s.dr.shiftWithin (portWidth s.cfg k) d) := by
  cases h : s.sel <;> simp [State.shiftDr, h]

/-- The write registers after an update, by the addressed port. -/
theorem State.updateWr_wr (s : State) :
    s.updateWr.wr = s.sel.elim s.wr (fun k => s.wr.set k (s.dr.resize (portWidth s.cfg k))) := by
  cases h : s.sel <;> simp [State.updateWr, h]

/-- The state after an instruction's action and transition (R80). -/
def tapAction (i : Instr) (s : State) : State :=
  match i with
  | .tlr m _ => s.reloadIr.transition .tlr m
  | .rti m _ => s.transition .rti m
  | .seldr m _ => s.transition .seldr m
  | .capdr m _ => s.captureDr.transition .capdr m
  | .shdr m d => (s.shiftDr d).transition .shdr m
  | .ex1dr m _ => s.transition .ex1dr m
  | .padr m _ => s.transition .padr m
  | .ex2dr m _ => s.transition .ex2dr m
  | .updr m _ => s.updateWr.transition .updr m
  | .selir m _ => s.transition .selir m
  | .capir m _ => s.transition .capir m
  | .shir m d => (s.shiftIr d).transition .shir m
  | .ex1ir m _ => s.transition .ex1ir m
  | .pair m _ => s.transition .pair m
  | .ex2ir m _ => s.transition .ex2ir m
  | .upir m _ => s.transition .upir m

theorem exec_eq_tapAction (i : Instr) (s : State) : exec i s = .next (tapAction i s) := by cases i <;> rfl

@[simp] theorem tapAction_tap (i : Instr) (s : State) : (tapAction i s).tap = nextState i.tapState i.mode := by
  cases i <;> rfl

@[simp] theorem tapAction_cfg (i : Instr) (s : State) : (tapAction i s).cfg = s.cfg := by
  cases i <;> simp [tapAction]

/-- IR is written by the TLR reload and the SHIFT-IR shift only (R25). -/
theorem tapAction_ir (i : Instr) (s : State) :
    (tapAction i s).ir =
      match i with
      | .tlr _ _ => Word.ofNat s.cfg.irWidth s.cfg.irReset
      | .shir _ d => s.ir.shiftWithin s.ir.width d
      | _ => s.ir := by
  cases i <;> simp [tapAction]

/-- DR is written by the capture and the shift only (R26). -/
theorem tapAction_dr (i : Instr) (s : State) :
    (tapAction i s).dr =
      match i with
      | .capdr _ _ => s.captureDr.dr
      | .shdr _ d => (s.shiftDr d).dr
      | _ => s.dr := by
  cases i <;> simp [tapAction]

/-- The write registers are written by the update only (R27, R111). -/
theorem tapAction_wr (i : Instr) (s : State) :
    (tapAction i s).wr =
      match i with
      | .updr _ _ => s.updateWr.wr
      | _ => s.wr := by
  cases i <;> simp [tapAction]

@[simp] theorem tapAction_inp (i : Instr) (s : State) : (tapAction i s).inp = s.inp := by
  cases i <;> simp [tapAction]

@[simp] theorem tapAction_pending (i : Instr) (s : State) : (tapAction i s).pending = s.pending := by
  cases i <;> simp [tapAction]

@[simp] theorem tapAction_tick (i : Instr) (s : State) : (tapAction i s).tick = s.tick := by
  cases i <;> simp [tapAction]

/-- The TAP path leaves the ten front-end registers alone (R28 to R31). -/
theorem tapAction_frontEnd (i : Instr) (s : State) :
    (tapAction i s).tckS1 = s.tckS1 ∧ (tapAction i s).tckS2 = s.tckS2 ∧ (tapAction i s).tmsS1 = s.tmsS1 ∧
    (tapAction i s).tmsS2 = s.tmsS2 ∧ (tapAction i s).tdiS1 = s.tdiS1 ∧ (tapAction i s).tdiS2 = s.tdiS2 ∧
    (tapAction i s).tckPrev = s.tckPrev ∧ (tapAction i s).settledLow = s.settledLow ∧
    (tapAction i s).sampledMode = s.sampledMode ∧ (tapAction i s).sampledData = s.sampledData := by
  cases i <;> simp [tapAction]

/-- The decoder's answer is a port of the map whose address the code is, and no earlier port has that address. -/
theorem selectPort_eq_some_iff {c : Config} {code k : Nat} :
    selectPort c code = some k ↔
      ∃ h : k < c.ports.length, c.ports[k].addr = code ∧ ∀ j, ∀ hj : j < k, c.ports[j].addr ≠ code := by
  simp [selectPort, List.findIdx?_eq_some_iff_getElem]

theorem selectPort_eq_none_iff {c : Config} {code : Nat} :
    selectPort c code = none ↔ ∀ p ∈ c.ports, p.addr ≠ code := by
  simp [selectPort, List.findIdx?_eq_none_iff]

end Sys2Proof.Machine
end

