-- ==== Sys2Proof/Laws/PerInstr.lean ====
section
/-! SUPPORT. Statements made per instruction: the encoding of each instruction is the row the opcode table gives it. -/

namespace Sys2Proof.Laws.TableRow

/-- "match = S << 2, mask = 0b111100" (R59): masked, the cycle word of an instruction is its row's match, which is its
state's code times 4. -/
def Statement (i : Instr) : Prop :=
  encodeCycle i &&& 0b111100#6 = i.tapState.code.setWidth 6 <<< 2

theorem tlr (m d : Bool) : Statement (.tlr m d) := by revert m d; unfold Statement; decide
theorem rti (m d : Bool) : Statement (.rti m d) := by revert m d; unfold Statement; decide
theorem seldr (m d : Bool) : Statement (.seldr m d) := by revert m d; unfold Statement; decide
theorem capdr (m d : Bool) : Statement (.capdr m d) := by revert m d; unfold Statement; decide
theorem shdr (m d : Bool) : Statement (.shdr m d) := by revert m d; unfold Statement; decide
theorem ex1dr (m d : Bool) : Statement (.ex1dr m d) := by revert m d; unfold Statement; decide
theorem padr (m d : Bool) : Statement (.padr m d) := by revert m d; unfold Statement; decide
theorem ex2dr (m d : Bool) : Statement (.ex2dr m d) := by revert m d; unfold Statement; decide
theorem updr (m d : Bool) : Statement (.updr m d) := by revert m d; unfold Statement; decide
theorem selir (m d : Bool) : Statement (.selir m d) := by revert m d; unfold Statement; decide
theorem capir (m d : Bool) : Statement (.capir m d) := by revert m d; unfold Statement; decide
theorem shir (m d : Bool) : Statement (.shir m d) := by revert m d; unfold Statement; decide
theorem ex1ir (m d : Bool) : Statement (.ex1ir m d) := by revert m d; unfold Statement; decide
theorem pair (m d : Bool) : Statement (.pair m d) := by revert m d; unfold Statement; decide
theorem ex2ir (m d : Bool) : Statement (.ex2ir m d) := by revert m d; unfold Statement; decide
theorem upir (m d : Bool) : Statement (.upir m d) := by revert m d; unfold Statement; decide

end Sys2Proof.Laws.TableRow
end

