-- ==== Sys2Proof/Laws/Setup.lean ====
section
/-! SUPPORT. What a configuration that passed its checks gives. -/

namespace Sys2Proof.Machine

theorem configCheck_of_wellFormed {c : Config} (h : c.wellFormed = true) : configCheck c = none := by
  simpa [Config.wellFormed] using h

/-- W is at least the width of every port (R11). -/
theorem width_le_drWidth {c : Config} {p : Port} (h : p ∈ c.ports) : p.width ≤ c.drWidth := by
  unfold Config.drWidth
  generalize c.ports = ports at h
  induction ports with
  | nil => cases h
  | cons q rest ih =>
    rw [List.foldr_cons]
    rcases List.mem_cons.mp h with rfl | h
    · omega
    · have := ih h
      omega

/-- What the checks of R127 to R131 leave. -/
structure PassedChecks (c : Config) : Prop where
  distinct : duplicateAddresses c.ports = false
  addr_lt : ∀ p ∈ c.ports, p.addr < 2 ^ c.irWidth
  irReset_lt : c.irReset < 2 ^ c.irWidth
  irWidth_pos : 1 ≤ c.irWidth
  ports_ne : c.ports ≠ []
  width_pos : ∀ p ∈ c.ports, 1 ≤ p.width

theorem passedChecks_of_wellFormed {c : Config} (h : c.wellFormed = true) : PassedChecks c := by
  have h : configErrors c = [] := by simpa [configCheck] using configCheck_of_wellFormed h
  simp only [configErrors, configErrorsWith, List.append_eq_nil_iff] at h
  obtain ⟨⟨⟨⟨dup, -⟩, addr⟩, rst⟩, zero⟩ := h
  simp at dup addr rst zero
  exact ⟨dup, addr, rst, by omega, zero.2.1, fun p hp => by have := zero.2.2 p hp; omega⟩

theorem portWidth_of_lt {c : Config} {k : Nat} (h : k < c.ports.length) : portWidth c k = c.ports[k].width := by
  simp [portWidth, h]

/-- An addressed port is one of the map. -/
theorem State.sel_lt {s : State} {k : Nat} (h : s.sel = some k) : k < s.cfg.ports.length :=
  (selectPort_eq_some_iff.mp h).1

/-- The width of an addressed port of a valid configuration is between 1 and W (R83). -/
theorem State.sel_width {s : State} {k : Nat} (hc : s.cfg.wellFormed = true) (h : s.sel = some k) :
    1 ≤ portWidth s.cfg k ∧ portWidth s.cfg k ≤ s.cfg.drWidth := by
  rw [portWidth_of_lt (State.sel_lt h)]
  exact ⟨(passedChecks_of_wellFormed hc).width_pos _ (List.getElem_mem _), width_le_drWidth (List.getElem_mem _)⟩

end Sys2Proof.Machine
end

