-- ==== Sys2Proof/Laws/Step.lean ====
section
/-! SUPPORT. Everything a step can do, said once (R105, R126, R139). -/

namespace Sys2Proof.Machine

/-- What the TAP path does in a tick without a system reset. -/
def tapTick (s : State) : State := if s.falling then tapAction s.fetch s else s.idleTick

/-- A step of a machine with a valid configuration, as one equation. -/
theorem step_of_valid {s : State} (h : configCheck s.cfg = none) :
    step s = .next (if s.inp.systemReset then s.systemResetTick else (tapTick s).finishTick) := by
  simp only [step, h, exec_eq_tapAction, tapTick]
  cases s.inp.systemReset <;> cases s.falling <;> rfl

/-- A step of a machine whose configuration fails a check. -/
theorem step_of_invalid {s : State} {kind : ConfigError} (h : configCheck s.cfg = some kind) :
    step s = .refused (.configRejected kind) := by
  simp only [step, h]

/-- The inversion of a step: what holds if it answers a next state. -/
theorem step_next_cases {s t : State} (h : step s = .next t) :
    configCheck s.cfg = none ∧
      ((s.inp.systemReset = true ∧ t = s.systemResetTick) ∨
       (s.inp.systemReset = false ∧ s.falling = true ∧ t = (tapAction s.fetch s).finishTick) ∨
       (s.inp.systemReset = false ∧ s.falling = false ∧ t = s.idleTick.finishTick)) := by
  cases hc : configCheck s.cfg with
  | some kind => rw [step_of_invalid hc] at h; cases h
  | none =>
    rw [step_of_valid hc] at h
    cases h
    refine ⟨rfl, ?_⟩
    cases hr : s.inp.systemReset <;> cases hf : s.falling <;> simp [tapTick, hf]

/-- A step without a system reset, as one equation. -/
theorem step_next_of_noReset {s t : State} (h : step s = .next t) (hr : s.inp.systemReset = false) :
    t = (tapTick s).finishTick := by
  obtain ⟨-, h | h | h⟩ := step_next_cases h
  · simp [hr] at h
  · simp [tapTick, h.2.1, h.2.2]
  · simp [tapTick, h.2.1, h.2.2]

@[simp] theorem tapTick_cfg (s : State) : (tapTick s).cfg = s.cfg := by unfold tapTick; split <;> simp

@[simp] theorem tapTick_tap (s : State) :
    (tapTick s).tap = if s.falling then nextState s.tap s.sampledMode else s.tap := by
  unfold tapTick; split <;> simp [State.fetch_eq]

@[simp] theorem tapTick_inp (s : State) : (tapTick s).inp = s.inp := by unfold tapTick; split <;> simp

@[simp] theorem tapTick_pending (s : State) : (tapTick s).pending = s.pending := by unfold tapTick; split <;> simp

@[simp] theorem tapTick_tick (s : State) : (tapTick s).tick = s.tick := by unfold tapTick; split <;> simp

@[simp] theorem tapTick_tckS1 (s : State) : (tapTick s).tckS1 = s.tckS1 := by
  unfold tapTick; split <;> simp [tapAction_frontEnd]

@[simp] theorem tapTick_tckS2 (s : State) : (tapTick s).tckS2 = s.tckS2 := by
  unfold tapTick; split <;> simp [tapAction_frontEnd]

@[simp] theorem tapTick_tmsS1 (s : State) : (tapTick s).tmsS1 = s.tmsS1 := by
  unfold tapTick; split <;> simp [tapAction_frontEnd]

@[simp] theorem tapTick_tmsS2 (s : State) : (tapTick s).tmsS2 = s.tmsS2 := by
  unfold tapTick; split <;> simp [tapAction_frontEnd]

@[simp] theorem tapTick_tdiS1 (s : State) : (tapTick s).tdiS1 = s.tdiS1 := by
  unfold tapTick; split <;> simp [tapAction_frontEnd]

@[simp] theorem tapTick_tdiS2 (s : State) : (tapTick s).tdiS2 = s.tdiS2 := by
  unfold tapTick; split <;> simp [tapAction_frontEnd]

@[simp] theorem tapTick_tckPrev (s : State) : (tapTick s).tckPrev = s.tckPrev := by
  unfold tapTick; split <;> simp [tapAction_frontEnd]

@[simp] theorem tapTick_sampledMode (s : State) : (tapTick s).sampledMode = s.sampledMode := by
  unfold tapTick; split <;> simp [tapAction_frontEnd]

@[simp] theorem tapTick_sampledData (s : State) : (tapTick s).sampledData = s.sampledData := by
  unfold tapTick; split <;> simp [tapAction_frontEnd]

/-- The pulses of a tick are the same before and after the TAP path's action, which reads and writes neither of their
registers. -/
@[simp] theorem tapTick_falling (s : State) : (tapTick s).falling = s.falling := by simp [State.falling]

@[simp] theorem tapTick_rising (s : State) : (tapTick s).rising = s.rising := by simp [State.rising]

/-- IR in one tick: reloaded in TEST-LOGIC-RESET, shifted at a `falling` of SHIFT-IR, otherwise kept. -/
theorem tapTick_ir (s : State) :
    (tapTick s).ir =
      if s.tap = .tlr then Word.ofNat s.cfg.irWidth s.cfg.irReset
      else if s.falling = true ∧ s.tap = .shir then s.ir.shiftWithin s.ir.width s.sampledData else s.ir := by
  unfold tapTick
  cases hf : s.falling <;> cases ht : s.tap <;> simp [State.fetch_eq, ht, Instr.ofState, tapAction_ir]

/-- DR in one tick: captured or shifted at a `falling`, otherwise kept. -/
theorem tapTick_dr (s : State) :
    (tapTick s).dr =
      if s.falling = true ∧ s.tap = .capdr then s.captureDr.dr
      else if s.falling = true ∧ s.tap = .shdr then (s.shiftDr s.sampledData).dr else s.dr := by
  unfold tapTick
  cases hf : s.falling <;> cases ht : s.tap <;> simp [State.fetch_eq, ht, Instr.ofState, tapAction_dr]

/-- The write registers in one tick: written at a `falling` of UPDATE-DR, otherwise kept. -/
theorem tapTick_wr (s : State) :
    (tapTick s).wr = if s.falling = true ∧ s.tap = .updr then s.updateWr.wr else s.wr := by
  unfold tapTick
  cases hf : s.falling <;> cases ht : s.tap <;> simp [State.fetch_eq, ht, Instr.ofState, tapAction_wr]

end Sys2Proof.Machine
end

