-- ==== Sys2Proof/Laws/Run.lean ====
section
/-! SUPPORT. Runs of ticks and of protocol cycles. -/

namespace Sys2Proof.Machine

/-- What well-formedness of a state says. -/
theorem State.wf_iff {s : State} : s.wf = true ↔
    s.cfg.wellFormed = true ∧ s.ir.width = s.cfg.irWidth ∧ s.dr.width = s.cfg.drWidth ∧
      s.wr.map Word.width = s.cfg.ports.map Port.width := by
  simp [State.wf, State.widthsOk, and_assoc]

/-- A tick of a machine with a valid configuration and no system reset. -/
theorem step_of_wellFormed {s : State} (hc : s.cfg.wellFormed = true) (hr : s.noSystemReset) :
    step s = .next (tapTick s).finishTick := by
  rw [step_of_valid (configCheck_of_wellFormed hc)]
  simp [hr]

theorem Ticks.append {s t u : State} {a b : List State} (h : Ticks s a t) (h' : Ticks t b u) : Ticks s (a ++ b) u := by
  induction h with
  | done => exact h'
  | tick h _ ih => exact .tick h (ih h')

/-- What holds of a state and is kept by every tick without a system reset holds at the end of every such run. -/
theorem Ticks.keeps {P : State → Prop} (hP : ∀ s t, P s → s.noSystemReset → step s = .next t → P t) {s u : State}
    {trace : List State} (h : Ticks s trace u) (hu : Uninterrupted trace) (hs : P s) : P u := by
  induction h with
  | done => exact hs
  | tick h _ ih => exact ih (fun x hx => hu x (by simp [hx])) (hP _ _ hs (hu _ (by simp)) h)

/-- The ticks of `n` steps and where they end, stopping where a step gives no next state. -/
def tickTrace : Nat → State → List State × State
  | 0, s => ([], s)
  | n + 1, s =>
    match step s with
    | .next t => (s :: (tickTrace n t).1, (tickTrace n t).2)
    | _ => ([], s)

theorem ticks_tickTrace (n : Nat) (s : State) : Ticks s (tickTrace n s).1 (tickTrace n s).2 := by
  induction n generalizing s with
  | zero => exact .done s
  | succ n ih =>
    rw [tickTrace]
    split
    · exact .tick (by assumption) (ih _)
    · exact .done s

theorem runCycles_nil (s : State) : runCycles [] s = .next s := rfl

/-- A cycle runs its state's action and then the rest. -/
theorem runCycles_cons (c : Cycle) (cs : List Cycle) (s : State) :
    runCycles (c :: cs) s = runCycles cs (tapAction (Instr.ofState s.tap c.mode c.data) s) := by
  simp [runCycles, cycleStep, exec_eq_tapAction]

theorem runCycles_append {a b : List Cycle} {s t : State} (h : runCycles a s = .next t) :
    runCycles (a ++ b) s = runCycles b t := by
  induction a generalizing s with
  | nil => cases h; rfl
  | cons c a ih =>
    rw [List.cons_append, runCycles_cons]
    rw [runCycles_cons] at h
    exact ih h

/-- A cycle reports TDO before its action (R63). -/
theorem cyclesTdo_cons (c : Cycle) (cs : List Cycle) (s : State) :
    cyclesTdo (c :: cs) s = s.tdo :: cyclesTdo cs (tapAction (Instr.ofState s.tap c.mode c.data) s) := by
  simp [cyclesTdo, cycleStep, exec_eq_tapAction]

/-- A protocol program always runs to its end. -/
theorem runCycles_next (cs : List Cycle) (s : State) : ∃ t, runCycles cs s = .next t := by
  induction cs generalizing s with
  | nil => exact ⟨s, rfl⟩
  | cons c cs ih => rw [runCycles_cons]; exact ih _

/-- Each cycle reports one bit. -/
theorem cyclesTdo_length (cs : List Cycle) (s : State) : (cyclesTdo cs s).length = cs.length := by
  induction cs generalizing s with
  | nil => rfl
  | cons c cs ih => rw [cyclesTdo_cons]; simp [ih]

end Sys2Proof.Machine
end

