-- ==== Sys2Proof/Tests/Slice0.lean ====
section
/-! SUPPORT. Tests: expected results are those of 95_test_vectors.md (each named in its comment) or of the rules. Then one
witness for every statement with hypotheses. -/

namespace Sys2Proof.Tests

open Sys2Proof.Machine

/-! ### Helpers -/

/-- A `falling` tick in state `S` with IR and DR as given and the sample `(m, d)`: the spec's default configuration,
port 0 at address 2 (width 8) and port 1 at address 5 (width 3); `read_bus` of port 0 is 0xA5, of port 1 0b011. -/
def fallingIn (S : TapState) (ir dr : Nat) (m d : Bool) : State :=
  { State.reset with
    tap := S, ir := Word.ofNat 5 ir, dr := Word.ofNat 8 dr, tckPrev := true, sampledMode := m, sampledData := d,
    inp := { quietInputs with readBus := [0xA5, 0b011] } }

/-- The same with TCK settled low: no pulse in this tick. -/
def restingIn (S : TapState) (ir dr : Nat) : State := { fallingIn S ir dr false false with tckPrev := false }

/-- What a test looks at after an outcome; `none` where there is no next state. -/
def after {α : Type} (o : Host.Outcome State Fault Refusal) (f : State → α) : Option α :=
  match o with
  | .next t => some (f t)
  | .fault _ => none
  | .refused _ => none

/-- Inputs with the given TCK and TMS levels. -/
def pins (tck tms : Bool) : Inputs := { quietInputs with tck := tck, tms := tms }

/-! ### Well-formedness: each check refuses an ill-formed term (V-CFG-1 to V-CFG-10) -/

theorem test_cfg_accepted : Config.scenario.wellFormed = true ∧ Config.scenario.drWidth = 8 ∧
    (⟨3, 7, [⟨7, 3⟩], true⟩ : Config).wellFormed = true := by decide
theorem test_cfg_duplicate : configCheck ⟨5, 1, [⟨2, 8⟩, ⟨2, 3⟩], true⟩ = some .duplicateAddress := by decide
theorem test_cfg_width_exceeds : configErrorsWith 4 Config.scenario = [.widthExceedsDr] := by decide
theorem test_cfg_ir_narrow : configCheck ⟨2, 1, [⟨5, 3⟩], true⟩ = some .irTooNarrow := by decide
theorem test_cfg_reset_wide : configCheck ⟨5, 32, [⟨2, 8⟩, ⟨5, 3⟩], true⟩ = some .irResetTooWide := by decide
theorem test_cfg_zero : configCheck ⟨0, 0, [⟨0, 1⟩], true⟩ = some .emptyOrZeroWidth ∧
    configCheck ⟨5, 1, [], true⟩ = some .emptyOrZeroWidth ∧
    configCheck ⟨5, 1, [⟨2, 0⟩], true⟩ = some .emptyOrZeroWidth := by decide
theorem test_cfg_several : configErrors ⟨2, 1, [⟨5, 3⟩, ⟨5, 1⟩], true⟩ = [.duplicateAddress, .irTooNarrow] := by decide
theorem test_cfg_rejected_has_no_run :
    (match step { State.reset with cfg := ⟨2, 1, [⟨5, 3⟩], true⟩ } with
      | .refused r => some r
      | _ => none) = some (.configRejected .irTooNarrow) := by decide
theorem test_bytes_ill_formed : wellFormedBytes [] = false ∧ wellFormedBytes [0x40#8] = false ∧
    wellFormedBytes [0x80#8] = false ∧ wellFormedBytes [0x00#8, 0x00#8] = false := by decide
theorem test_instr_well_formed : (Instr.shdr true true).wellFormed = true := by decide
theorem test_state_ill_formed : { State.reset with ir := Word.zero 4 }.wf = false := by decide

/-! ### Decoding: one word of every constructor, written out from R55 and R56 -/

theorem test_decode_tlr : decode [0b00000010#8] = .ok (.tlr true false, []) := by decide
theorem test_decode_rti : decode [0b00000110#8] = .ok (.rti true false, []) := by decide
theorem test_decode_seldr : decode [0b00001001#8] = .ok (.seldr false true, []) := by decide
theorem test_decode_capdr : decode [0b00001110#8] = .ok (.capdr true false, []) := by decide
theorem test_decode_shdr : decode [0b00010001#8] = .ok (.shdr false true, []) := by decide
theorem test_decode_ex1dr : decode [0b00010110#8] = .ok (.ex1dr true false, []) := by decide
theorem test_decode_padr : decode [0b00011000#8] = .ok (.padr false false, []) := by decide
theorem test_decode_ex2dr : decode [0b00011101#8] = .ok (.ex2dr false true, []) := by decide
theorem test_decode_updr : decode [0b00100010#8] = .ok (.updr true false, []) := by decide
theorem test_decode_selir : decode [0b00100110#8] = .ok (.selir true false, []) := by decide
theorem test_decode_capir : decode [0b00101000#8] = .ok (.capir false false, []) := by decide
theorem test_decode_shir : decode [0b00101101#8] = .ok (.shir false true, []) := by decide
theorem test_decode_ex1ir : decode [0b00110010#8] = .ok (.ex1ir true false, []) := by decide
theorem test_decode_pair : decode [0b00110101#8] = .ok (.pair false true, []) := by decide
theorem test_decode_ex2ir : decode [0b00111010#8] = .ok (.ex2ir true false, []) := by decide
theorem test_decode_upir : decode [0b00111101#8] = .ok (.upir false true, []) := by decide
theorem test_decode_table_word : decodeTableWord 8 0b101100 = some (.shir false false) ∧
    decodeTableWord 8 0b1000000 = none := by decide

/-! ### Instructions: one step each -/

/-- V-FSM-3 and R85: leaving TLR, the reload still applies. -/
theorem test_tlr : after (step (fallingIn .tlr 0b10110 0xFF false false)) (fun t => (t.tap, t.ir, t.dr))
    = some (.rti, Word.ofNat 5 1, Word.ofNat 8 0xFF) := by decide
/-- R85: without `falling` TLR reloads IR too; V-FSM-1: another state does not move. -/
theorem test_no_falling : after (step (restingIn .tlr 0b10110 0)) (fun t => (t.tap, t.ir)) = some (.tlr, Word.ofNat 5 1) ∧
    after (step (restingIn .rti 0b10110 0)) (fun t => (t.tap, t.ir)) = some (.rti, Word.ofNat 5 0b10110) := by decide
/-- T4. -/
theorem test_rti : after (step (fallingIn .rti 1 0 true false)) State.tap = some .seldr := by decide
/-- T5. -/
theorem test_seldr : after (step (fallingIn .seldr 1 0 false false)) State.tap = some .capdr := by decide
/-- V-CAP-1: zero fill above a narrow port. -/
theorem test_capdr : after (step (fallingIn .capdr 5 0xFF false false)) (fun t => (t.tap, t.dr))
    = some (.shdr, Word.ofNat 8 0b00000011) := by decide
/-- V-CAP-2: an unaddressed code captures nothing. -/
theorem test_capdr_unaddressed : after (step (fallingIn .capdr 1 0xFF true false)) (fun t => (t.tap, t.dr))
    = some (.ex1dr, Word.ofNat 8 0xFF) := by decide
/-- V-DR-2 and V-DR-3: within a narrow port, and over the whole of DR. -/
theorem test_shdr : after (step (fallingIn .shdr 5 0b10110011 false true)) (fun t => (t.tap, t.dr))
      = some (.shdr, Word.ofNat 8 0b10110101) ∧
    after (step (fallingIn .shdr 2 0b10110011 true true)) (fun t => (t.tap, t.dr))
      = some (.ex1dr, Word.ofNat 8 0b11011001) := by decide
/-- V-DR-5 (a port of width 1) and V-DR-7 (an unaddressed code). -/
theorem test_shdr_corners :
    after (step { fallingIn .shdr 3 0b10110011 false false with cfg := ⟨5, 1, [⟨2, 8⟩, ⟨3, 1⟩], true⟩ }) State.dr
      = some (Word.ofNat 8 0b10110010) ∧
    after (step (fallingIn .shdr 1 0b10110011 false true)) State.dr = some (Word.ofNat 8 0b10110011) := by decide
/-- T11. -/
theorem test_ex1dr : after (step (fallingIn .ex1dr 5 0xFF false false)) (fun t => (t.tap, t.dr))
    = some (.padr, Word.ofNat 8 0xFF) := by decide
/-- T14. -/
theorem test_padr : after (step (fallingIn .padr 5 0xFF true false)) State.tap = some .ex2dr := by decide
/-- T15. -/
theorem test_ex2dr : after (step (fallingIn .ex2dr 5 0xFF false false)) State.tap = some .shdr := by decide
/-- V-UPD-1 and V-UPD-4: only the addressed port is written. -/
theorem test_updr : after (step (fallingIn .updr 5 0b11001101 false false)) (fun t => (t.tap, t.wr))
      = some (.rti, [Word.ofNat 8 0, Word.ofNat 3 0b101]) ∧
    after (step (fallingIn .updr 2 0x3C true false)) (fun t => (t.tap, t.wr))
      = some (.seldr, [Word.ofNat 8 0x3C, Word.ofNat 3 0]) := by decide
/-- V-UPD-3. -/
theorem test_updr_unaddressed : after (step (fallingIn .updr 1 0xFF false false)) State.wr
    = some [Word.ofNat 8 0, Word.ofNat 3 0] := by decide
/-- T20 and V-FSM-3: entering TLR, IR is not yet reloaded. -/
theorem test_selir : after (step (fallingIn .selir 0b10110 0 true false)) (fun t => (t.tap, t.ir))
    = some (.tlr, Word.ofNat 5 0b10110) := by decide
/-- V-IR-6. -/
theorem test_capir : after (step (fallingIn .capir 0b00101 0 false true)) (fun t => (t.tap, t.ir))
    = some (.shir, Word.ofNat 5 0b00101) := by decide
/-- V-IR-1 and V-IR-2. -/
theorem test_shir : after (step (fallingIn .shir 0b00001 0 false true)) (fun t => (t.tap, t.ir))
      = some (.shir, Word.ofNat 5 0b10000) ∧
    after (step (fallingIn .shir 0b10011 0 true false)) (fun t => (t.tap, t.ir))
      = some (.ex1ir, Word.ofNat 5 0b01001) := by decide
/-- V-IR-4: an IR of one bit. -/
theorem test_shir_one_bit :
    after (exec (.shir false true) { fallingIn .shir 0 0 false true with ir := Word.ofNat 1 0 }) State.ir
      = some (Word.ofNat 1 1) := by decide
/-- T25. -/
theorem test_ex1ir : after (step (fallingIn .ex1ir 5 0 false false)) State.tap = some .pair := by decide
/-- T28. -/
theorem test_pair : after (step (fallingIn .pair 5 0 true false)) State.tap = some .ex2ir := by decide
/-- T29. -/
theorem test_ex2ir : after (step (fallingIn .ex2ir 5 0 false false)) State.tap = some .shir := by decide
/-- T31 and V-IR-6. -/
theorem test_upir : after (step (fallingIn .upir 0b00101 0 false true)) (fun t => (t.tap, t.ir))
    = some (.rti, Word.ofNat 5 0b00101) := by decide

/-! ### Front end, outputs, reset -/

/-- P4, ticks 5 and 8: the latch at `rising`, `settled_low` after `falling`. -/
theorem test_front_end :
    after (step { restingIn .rti 1 0 with tckS2 := true, tmsS2 := true, tdiS1 := true }) (fun t =>
      (t.tckPrev, t.sampledMode, t.sampledData, t.settledLow, t.tdiS2)) = some (true, true, false, false, true) ∧
    after (step (fallingIn .rti 1 0 true false)) (fun t => (t.tckPrev, t.sampledMode, t.settledLow))
      = some (false, true, true) := by decide
/-- V-DEC-1. -/
theorem test_decoder : selectPort Config.scenario 2 = some 0 ∧ selectPort Config.scenario 5 = some 1 ∧
    selectPort Config.scenario 1 = none ∧ selectPort Config.scenario 31 = none := by decide
/-- V-CAP-1, V-UPD-1, V-UPD-2: strobes and write buses of the action's tick. -/
theorem test_strobes : (fallingIn .capdr 5 0xFF false false).outputs =
      ⟨false, [⟨false, false, false, Word.zero 8⟩, ⟨true, false, false, Word.zero 3⟩]⟩ ∧
    (fallingIn .updr 5 0b11001101 false false).outputs =
      ⟨false, [⟨false, false, false, Word.zero 8⟩, ⟨false, true, false, Word.ofNat 3 0b101⟩]⟩ ∧
    ({ fallingIn .updr 5 0b11001101 false false with cfg := { Config.scenario with writeBusBypass := false } }).writeBus 1
      = Word.zero 3 := by decide
/-- V-TDO-1 to V-TDO-4. -/
theorem test_tdo : (restingIn .shdr 1 0b110).tdo = false ∧ (restingIn .shdr 1 0b111).tdo = true ∧
    (restingIn .shir 0b00011 0).tdo = true ∧ (restingIn .ex1dr 31 0xFF).tdo = false ∧
    (restingIn .padr 31 0xFF).tdo = false := by decide
/-- R141, V-RST-1. -/
theorem test_reset_outputs : State.reset.outputs =
    ⟨false, [⟨false, false, true, Word.zero 8⟩, ⟨false, false, true, Word.zero 3⟩]⟩ := by decide
/-- R139: a system reset overrides the action of the tick. -/
theorem test_system_reset :
    after (step { fallingIn .updr 5 0xFF false false with inp := { quietInputs with systemReset := true } })
      (fun t => (t.tap, t.ir, t.dr, t.wr, t.tckPrev))
      = some (.tlr, Word.ofNat 5 1, Word.zero 8, [Word.zero 8, Word.zero 3], false) := by decide
/-- The host's fixture runs a table word as the first instruction after reset. -/
theorem test_with_fetch_word : after (step (State.reset.withFetchWord 8 0b101101)) (fun t => (t.tap, t.ir))
    = some (.shir, Word.ofNat 5 0b10000) := by decide
/-- P1 of the spec at protocol level, its scan part: the TDO bits and the value written. -/
theorem test_drscan : after (runCycles (drScan (Word.ofNat 3 0b101)) (restingIn .rti 5 0)) (fun t => (t.tap, t.dr, t.wr))
      = some (.rti, Word.ofNat 8 0b101, [Word.zero 8, Word.ofNat 3 0b101]) := by decide
theorem test_drscan_tdo : cyclesTdo (drScan (Word.ofNat 3 0b101)) (restingIn .rti 5 0)
      = [false, false, false, true, true, false, false, false] := by decide
/-- P1, its IR scan: TDO shows the previous IR 0b00001, bit 0 first. -/
theorem test_irscan : after (runCycles (irScan (Word.ofNat 5 0b00101)) (restingIn .rti 1 0)) (fun t => (t.tap, t.ir))
      = some (.rti, Word.ofNat 5 0b00101) ∧
    cyclesTdo (irScan (Word.ofNat 5 0b00101)) (restingIn .rti 1 0)
      = [false, false, false, false, true, false, false, false, false, false, false] := ⟨rfl, rfl⟩
/-- P5 of the spec: TLR5 from inside a DR scan writes the partly shifted DR to the addressed port. -/
theorem test_tlr5 : after (runCycles tlr5 (restingIn .shdr 5 0b101)) (fun t => (t.tap, t.dr, t.wr))
    = some (.tlr, Word.ofNat 8 0b010, [Word.zero 8, Word.ofNat 3 0b010]) := by decide
/-- P1, cycle 1. -/
theorem test_idle : after (runCycles idle (restingIn .tlr 1 0)) (fun t => (t.tap, t.ir))
    = some (.rti, Word.ofNat 5 1) := by decide
/-- Log 28: the update strobe of a tick with a system reset is what R108 gives. -/
theorem test_system_reset_outputs :
    ({ fallingIn .updr 5 0xFF false false with inp := { quietInputs with systemReset := true } }).update 1 = true := by decide

/-! ### Witnesses: states and operands that meet the hypotheses of each statement -/

theorem witness_placed_word : decodeTableWord 8 0 = some (.tlr false false) ∧
    decodeTableWord 8 63 = some (.upir true true) := by decide

theorem witness_falling_tick : ∃ t, decode [(fallingIn .shir 1 0 false true).cycleWord.setWidth 8] = .ok (.shir false true, []) ∧
    (fallingIn .shir 1 0 false true).cfg.wellFormed = true ∧ (fallingIn .shir 1 0 false true).noSystemReset ∧
    (fallingIn .shir 1 0 false true).falling = true ∧
    exec (.shir false true) (fallingIn .shir 1 0 false true) = .next t := ⟨_, by decide, by decide, by decide, by decide, rfl⟩

/-- Also of `StateChangesOnlyAtFalling`, `SynchronizerTakesPins` and the second clause of `ResetStrobeIsALevel`. -/
theorem witness_tick_without_falling : (restingIn .tlr 3 0).cfg.wellFormed = true ∧ (restingIn .tlr 3 0).noSystemReset ∧
    (restingIn .tlr 3 0).falling = false ∧ (restingIn .shdr 3 0).falling = false := by decide

theorem witness_synchronizer : ∃ s t t', s.cfg.wellFormed = true ∧ s.noSystemReset ∧ step s = .next t ∧
    step { s with tckS1 := true, tmsS1 := true, tdiS1 := true, inp := { s.inp with tck := true, tms := true, tdi := true } }
      = .next t' := ⟨restingIn .rti 1 0, _, _, by decide, by decide, rfl, rfl⟩

/-- Five ticks of a machine at rest whose TCK pin is high in ticks 1 and 2. -/
def pinRun : State := { restingIn .rti 1 0 with inp := pins false true, pending := [pins true true, pins true true,
  pins false true, pins false true, pins false true, pins false true, pins false true] }

/-- The latency and the two pin statements: `PinRiseIsSampled` from tick 0, `PinFallActsThreeTicksLater` from tick 2. -/
theorem witness_pin_edges : ∃ a b c d e f g, step a = .next b ∧ step b = .next c ∧ step c = .next d ∧
    step d = .next e ∧ step e = .next f ∧ step f = .next g ∧ a.noSystemReset ∧ b.noSystemReset ∧ c.noSystemReset ∧
    d.noSystemReset ∧ e.noSystemReset ∧ f.noSystemReset ∧ a.inp.tck = false ∧ b.inp.tck = true ∧ c.inp.tck = true ∧
    d.inp.tck = false :=
  ⟨pinRun, _, _, _, _, _, _, rfl, rfl, rfl, rfl, rfl, rfl, rfl, rfl, rfl, rfl, rfl, rfl, rfl, rfl, rfl, rfl⟩

theorem witness_latency_after_reset : ∃ c i p t, step (State.resetWith c i p) = .next t :=
  ⟨Config.scenario, quietInputs, [], _, rfl⟩

theorem witness_latest_sample : ∃ s t u trace, step s = .next t ∧ Ticks t trace u ∧ s.noSystemReset ∧
    Uninterrupted trace ∧ s.rising = true ∧ (∀ x ∈ trace, x.rising = false) ∧ u.falling = true :=
  ⟨{ restingIn .rti 1 0 with tckS2 := true, tckS1 := true, pending := [pins false false, pins false false] }, _, _, _, rfl,
    ticks_tickTrace 1 _, by decide, by decide, by decide, by decide, by decide⟩

/-- A machine right after reset whose TCK pin is high in tick 0 and low from tick 1. -/
def resetRun : State := State.resetWith Config.scenario (pins true false) [pins false false, pins false false, pins false false]

/-- `PulsesAlternate` on runs that have pulses, one of them from reset. -/
theorem witness_pulses : Ticks pinRun (tickTrace 6 pinRun).1 (tickTrace 6 pinRun).2 ∧
    Uninterrupted (tickTrace 6 pinRun).1 ∧ pulses (tickTrace 6 pinRun).1 = [true, false] ∧
    Ticks resetRun (tickTrace 4 resetRun).1 (tickTrace 4 resetRun).2 ∧ Uninterrupted (tickTrace 4 resetRun).1 ∧
    pulses (tickTrace 4 resetRun).1 = [true, false] ∧ (∃ c i p, resetRun = State.resetWith c i p) :=
  ⟨ticks_tickTrace 6 _, by decide, by decide, ticks_tickTrace 4 _, by decide, by decide, ⟨_, _, _, rfl⟩⟩

theorem witness_no_edges : ∃ s u trace, Ticks s trace u ∧ Uninterrupted trace ∧ (∀ x ∈ trace, x.falling = false) ∧
    s.tap = .tlr ∧ trace ≠ [] :=
  ⟨{ restingIn .tlr 3 0 with pending := [quietInputs] }, _, _, ticks_tickTrace 2 _, by decide, by decide, by decide, by decide⟩

theorem witness_tlr : (fallingIn .tlr 3 0 false false).cfg.wellFormed = true ∧ (fallingIn .tlr 3 0 false false).noSystemReset ∧
    (fallingIn .tlr 3 0 false false).tap = .tlr ∧ (fallingIn .tlr 3 0 false false).falling = true := by decide

/-- The addressed and the unaddressed clause of the statements about CAPDR, SHDR, UPDR and d; the narrow and the full
width port, at their boundary widths 3 and 8 = W. -/
theorem witness_addressed : (fallingIn .shdr 5 0xFF true true).wf = true ∧ (fallingIn .shdr 5 0xFF true true).sel = some 1 ∧
    portWidth Config.scenario 1 = 3 ∧ (fallingIn .shdr 2 0xFF true true).wf = true ∧
    (fallingIn .shdr 2 0xFF true true).sel = some 0 ∧ portWidth Config.scenario 0 = Config.scenario.drWidth ∧
    (fallingIn .shdr 31 0xFF true true).sel = none := by decide

/-- `ShiftIrInsertsAtTheTop` also at the least width of IR. -/
theorem witness_shift_ir : 1 ≤ (fallingIn .shir 5 0 true true).ir.width ∧ 1 ≤ (Word.ofNat 1 0).width ∧
    (fallingIn .shir 5 0 true true).wf = true ∧ (fallingIn .shir 5 0 true true).noSystemReset ∧
    (fallingIn .shir 5 0 true true).tap = .shir ∧ (fallingIn .shir 5 0 true true).falling = true ∧
    (restingIn .shir 5 0).falling = false ∧ (restingIn .shir 5 0).wf = true := by decide

theorem witness_exit1 : (fallingIn .ex1dr 5 0 true true).cfg.wellFormed = true ∧ (fallingIn .ex1dr 5 0 true true).noSystemReset ∧
    (fallingIn .ex1dr 5 0 true true).tap = .ex1dr ∧ (fallingIn .ex1ir 5 0 true true).tap = .ex1ir ∧
    (fallingIn .ex1dr 5 0 true true).falling = true ∧ (restingIn .ex1dr 5 0).falling = false := by decide

theorem witness_operand_use : TapState.tlr ≠ .shdr ∧ TapState.tlr ≠ .shir := by decide

theorem witness_strobes : (fallingIn .capdr 5 0 true true).cfg.wellFormed = true ∧
    (fallingIn .capdr 5 0 true true).capture 1 = true ∧ (fallingIn .updr 2 0 true true).update 0 = true ∧
    (∃ t, step (fallingIn .capdr 5 0 true true) = .next t) ∧ (∃ t, step (fallingIn .updr 2 0 true true) = .next t) ∧
    (restingIn .tlr 5 0).resetStrobe = true ∧ (fallingIn .capdr 5 0 true true).sel = some 1 :=
  ⟨by decide, by decide, by decide, ⟨_, rfl⟩, ⟨_, rfl⟩, by decide, by decide⟩

theorem witness_reset_strobe : ∃ o, o ∈ (restingIn .tlr 5 0).outputs.ports := ⟨_, List.mem_cons_self⟩

/-- Both clauses of `WriteBusShowsTheNextValue`, and `WriteRegisterLoad`. -/
theorem witness_write_bus : (fallingIn .updr 5 0xFF true true).wf = true ∧ (fallingIn .updr 5 0xFF true true).noSystemReset ∧
    1 < Config.scenario.ports.length ∧ Config.scenario.writeBusBypass = true ∧
    ({ fallingIn .updr 5 0xFF true true with cfg := { Config.scenario with writeBusBypass := false } }).wf = true := by decide

theorem witness_tdo_states : (restingIn .shdr 5 1).tap = .shdr ∧ (restingIn .shir 5 1).tap = .shir ∧
    (restingIn .ex1dr 5 1).tap = .ex1dr ∧ (restingIn .ex1ir 5 1).tap = .ex1ir ∧
    (∃ t, step (restingIn .shdr 5 1) = .next t) ∧ (restingIn .shdr 5 1).noSystemReset ∧
    (restingIn .shdr 5 1).falling = false := ⟨by decide, by decide, by decide, by decide, ⟨_, rfl⟩, by decide, by decide⟩

theorem witness_owner : (fallingIn .updr 5 0b101 true true).update 1 = true ∧
    OwnerObeys (fallingIn .updr 5 0b101 true true) 1 (some (Word.zero 3)) (Word.ofNat 3 0b101) :=
  ⟨by decide, fun _ => by decide, fun r hr h => absurd h (by decide)⟩

theorem witness_ir_path : (fallingIn .shir 5 0 true true).tap ∈ [TapState.selir, .capir, .shir, .ex1ir, .pair, .ex2ir, .upir] ∧
    (∃ t, step (fallingIn .shir 5 0 true true) = .next t) ∧ (fallingIn .shir 5 0 true true).noSystemReset :=
  ⟨by decide, ⟨_, rfl⟩, by decide⟩

/-- In the capture tick only the selected port's bus is kept; in any other tick every bus may differ. -/
theorem witness_read_bus : ∃ (s : State) (bus : List Nat), s.capture 1 = true ∧ bus ≠ s.inp.readBus ∧
    ∀ k, s.capture k = true → { s with inp := { s.inp with readBus := bus } }.readBus k = s.readBus k := by
  refine ⟨fallingIn .capdr 5 0 true true, [0, 0b011], by decide, by decide, fun k hk => ?_⟩
  have hsel : (fallingIn .capdr 5 0 true true).sel = some k := by
    simp only [State.capture, Bool.and_eq_true, decide_eq_true_eq] at hk
    exact hk.2
  obtain rfl : 1 = k := Option.some.inj ((by decide : (fallingIn .capdr 5 0 true true).sel = some 1).symm.trans hsel)
  rfl

theorem witness_configurations : configCheck ⟨0, 0, [⟨0, 1⟩], true⟩ = some .emptyOrZeroWidth ∧
    step { State.reset with cfg := ⟨0, 0, [⟨0, 1⟩], true⟩ } = .refused (.configRejected .emptyOrZeroWidth) ∧
    Config.scenario.wellFormed = true := ⟨by decide, rfl, by decide⟩

theorem witness_step_keeps : State.reset.wf = true ∧ ∃ t, step State.reset = .next t := ⟨by decide, _, rfl⟩

theorem witness_reset : ∃ (c : Config) (i : Inputs) (p : List Inputs) (s : State), c.wellFormed = true ∧
    s = State.resetWith c i p ∧ 1 < c.ports.length := ⟨Config.scenario, quietInputs, [], _, by decide, rfl, by decide⟩

theorem witness_system_reset : ({ fallingIn .updr 5 0xFF false false with
    inp := { quietInputs with systemReset := true } }).cfg.wellFormed = true ∧
    ({ fallingIn .updr 5 0xFF false false with inp := { quietInputs with systemReset := true } }).inp.systemReset = true := by
  decide

/-- TCK toggling in every tick with TMS = 1, caught at a `falling` tick of PAUSE-DR. -/
def toggling : State :=
  { fallingIn .padr 5 0 true false with
    tckS1 := true, tmsS1 := true, tmsS2 := true, inp := pins false true,
    pending := [pins true true, pins false true, pins true true, pins false true, pins true true, pins false true,
      pins true true, pins false true, pins true true] }

theorem witness_five_ones : Ticks toggling (tickTrace 9 toggling).1 (tickTrace 9 toggling).2 ∧
    Uninterrupted (tickTrace 9 toggling).1 ∧ (∀ m ∈ fallingModes (tickTrace 9 toggling).1, m = true) ∧
    5 ≤ (fallingModes (tickTrace 9 toggling).1).length ∧ (tickTrace 9 toggling).2.noSystemReset :=
  ⟨ticks_tickTrace 9 _, by decide, by decide, by decide, by decide⟩

/-- The samples that take SHIFT-DR through UPDATE-DR and SELECT-DR-SCAN to CAPTURE-DR: TMS 1, 1, 1, 0. -/
def shiftToCapture : State :=
  { toggling with
    tap := .shdr, pending := [pins true true, pins false true, pins true false, pins false true, pins true true,
      pins false true, pins true true] }

theorem witness_shift_to_capture : ∃ s u trace, Ticks s trace u ∧ Uninterrupted trace ∧ s.tap = .shdr ∧ u.tap = .capdr :=
  ⟨shiftToCapture, _, _, ticks_tickTrace 7 _, by decide, by decide, by decide⟩

/-- CAPTURE-DR, EXIT1-DR, UPDATE-DR. -/
theorem witness_one_scan : ∃ s t u trace, s.tap = .capdr ∧ s.noSystemReset ∧ step s = .next t ∧ Ticks t trace u ∧
    Uninterrupted trace ∧ (∀ x ∈ trace, x.tap ≠ .tlr ∧ x.tap ≠ .updr) ∧ u.tap = .updr :=
  ⟨{ toggling with tap := .capdr }, _, _, _, by decide, by decide, rfl, ticks_tickTrace 2 _, by decide, by decide, by decide⟩

/-- The scans, at the least length too. -/
theorem witness_scans : (restingIn .rti 5 0).wf = true ∧ (restingIn .rti 5 0).tap = .rti ∧
    (restingIn .rti 5 0).sel = some 1 ∧ (Word.ofNat 3 0).width = portWidth (restingIn .rti 5 0).cfg 1 ∧
    (Word.ofNat 5 0).width = (restingIn .rti 5 0).ir.width ∧ (restingIn .rti 31 0).sel = none ∧ 1 ≤ (Word.ofNat 1 0).width ∧
    (restingIn .shir 5 0).wf = true ∧ (restingIn .shdr 5 0).sel = some 1 ∧ (restingIn .shdr 5 0).wf = true := by decide

/-- The waveform of one cycle with phases of one tick, and three low ticks after it. -/
theorem witness_waveform : ∃ (s t : State) (cs : List Cycle) (bus : List Nat) (lo hi : Nat) (tail rest : List Inputs),
    cs ≠ [] ∧ s.cfg.wellFormed = true ∧ 1 ≤ lo ∧ 1 ≤ hi ∧ s.cfg.ports.length ≤ bus.length ∧
    s.tckS1 = false ∧ s.tckS2 = false ∧ s.tckPrev = false ∧
    tail.length = 3 ∧ (∀ i ∈ tail, i.tck = false ∧ i.systemReset = false ∧ i.readBus = bus) ∧
    s.inp :: s.pending = programWaveform cs bus lo hi ++ tail ++ rest ∧ runCycles cs s = .next t := by
  let c : Cycle := ⟨true, true⟩
  let i : Inputs := c.inputs [1, 2] false
  exact ⟨{ restingIn .rti 5 0 with inp := i, pending := [c.inputs [1, 2] true, i, i, i] }, _, [c], [1, 2], 1, 1, [i, i, i],
    [], by decide, by decide, by decide, by decide, by decide, rfl, rfl, rfl, rfl, by decide, by decide, rfl⟩

/-- The same with a low phase of three ticks, the least for which a host reads TDO where it raises TCK. -/
theorem witness_waveform_tdo : ∃ (s : State) (cs : List Cycle) (bus : List Nat) (lo hi : Nat) (tail rest : List Inputs),
    0 < cs.length ∧ s.cfg.wellFormed = true ∧ 3 ≤ lo ∧ 1 ≤ hi ∧ s.cfg.ports.length ≤ bus.length ∧
    s.tckS1 = false ∧ s.tckS2 = false ∧ s.tckPrev = false ∧
    tail.length = 3 ∧ (∀ i ∈ tail, i.tck = false ∧ i.systemReset = false ∧ i.readBus = bus) ∧
    s.inp :: s.pending = programWaveform cs bus lo hi ++ tail ++ rest := by
  let c : Cycle := ⟨false, true⟩
  let i : Inputs := c.inputs [1, 2] false
  exact ⟨{ restingIn .shdr 5 1 with inp := i, pending := [i, i, c.inputs [1, 2] true, i, i, i] }, [c], [1, 2], 3, 1,
    [i, i, i], [], by decide, by decide, by decide, by decide, by decide, rfl, rfl, rfl, rfl, by decide, by decide⟩

theorem witness_idle : (restingIn .tlr 1 0).tap ∈ [TapState.tlr, .updr, .upir, .rti] ∧
    (restingIn .updr 1 0).tap ∈ [TapState.tlr, .updr, .upir, .rti] ∧
    (restingIn .upir 1 0).tap ∈ [TapState.tlr, .updr, .upir, .rti] ∧
    (restingIn .rti 1 0).tap ∈ [TapState.tlr, .updr, .upir, .rti] := by decide

end Sys2Proof.Tests
end

namespace Sys2Proof.Machine

/-- R9, R129: a valid configuration's IR_RESET fits in L bits, so IR loaded with it reads back as IR_RESET. -/
theorem toNat_ofNat_irReset {c : Config} (h : c.wellFormed = true) :
    (Word.ofNat c.irWidth c.irReset).toNat = c.irReset := by
  rw [Word.toNat_ofNat]
  exact Nat.mod_eq_of_lt (passedChecks_of_wellFormed h).irReset_lt

/-- Settles O46: reset loads the state and IR as R42 says, and the check of R129 keeps IR_RESET whole. -/
theorem resetEntryPoint : Obligations.ResetEntryPoint := by
  intro c i p h
  refine ⟨State.resetWith_tap c i p, ?width, ?value⟩
  case width => rw [State.resetWith_ir, Word.width_ofNat]
  case value => rw [State.resetWith_ir, toNat_ofNat_irReset h]

end Sys2Proof.Machine

namespace Sys2Proof.Machine

/-- R57, R79: no state's row of the transition table ignores the mode. -/
theorem nextState_true_ne_false (S : TapState) : nextState S true ≠ nextState S false := by
  cases S <;> decide

/-- R57: outside the two shift states the action and the transition read the mode and the registers only. -/
theorem tapAction_ofState_data {S : TapState} (m d d' : Bool) (s : State) (hdr : S ≠ .shdr) (hir : S ≠ .shir) :
    tapAction (Instr.ofState S m d) s = tapAction (Instr.ofState S m d') s := by
  cases S
  case shdr => exact absurd rfl hdr
  case shir => exact absurd rfl hir
  all_goals rfl

/-- R83: the data bit enters DR at the top of the addressed port's window, which the configuration checks keep
non-empty and within DR. -/
theorem tapAction_shdr_dr_top {s : State} {k : Nat} (m d : Bool) (hwf : s.wf = true) (hsel : s.sel = some k) :
    (tapAction (.shdr m d) s).dr.bit (portWidth s.cfg k - 1) = d := by
  obtain ⟨hcfg, -, hdr, -⟩ := State.wf_iff.mp hwf
  obtain ⟨hpos, hle⟩ := State.sel_width hcfg hsel
  have hshift : (tapAction (.shdr m d) s).dr = s.dr.shiftWithin (portWidth s.cfg k) d := by
    simp only [tapAction_dr, State.shiftDr_of_some d hsel]
  rw [hshift]
  exact Word.bit_shiftWithin_top d (hdr ▸ hle) hpos

/-- R84: the data bit enters IR at its top bit, which exists because L is at least 1. -/
theorem tapAction_shir_ir_top {s : State} (m d : Bool) (hwf : s.wf = true) :
    (tapAction (.shir m d) s).ir.bit (s.cfg.irWidth - 1) = d := by
  obtain ⟨hcfg, hir, -, -⟩ := State.wf_iff.mp hwf
  have hpos : 1 ≤ s.ir.width := hir ▸ (passedChecks_of_wellFormed hcfg).irWidth_pos
  rw [tapAction_ir, ← hir]
  exact Word.bit_shiftWithin_top d le_rfl hpos

/-- Settles O27: the mode by the rows of the transition table, the data by what each state's action reads. -/
theorem operandUse : Obligations.OperandUse := by
  refine ⟨?mode, ?unread, ?shiftDr, ?shiftIr⟩
  case mode =>
    intro S d s
    refine ⟨_, _, exec_eq_tapAction _ s, exec_eq_tapAction _ s, ?_⟩
    simpa using nextState_true_ne_false S
  case unread =>
    intro S m d d' s hdr hir
    rw [exec_eq_tapAction, exec_eq_tapAction, tapAction_ofState_data m d d' s hdr hir]
  case shiftDr =>
    intro m d s k hwf hsel
    exact ⟨_, exec_eq_tapAction _ s, tapAction_shdr_dr_top m d hwf hsel⟩
  case shiftIr =>
    intro m d s hwf
    exact ⟨_, exec_eq_tapAction _ s, tapAction_shir_ir_top m d hwf⟩

end Sys2Proof.Machine

namespace Sys2Proof.Machine

/-! ### The front end in one tick, and what reads the external lines -/

/-- The TAP path's action does not disturb the front end, which moves on from the tick's own values (R14, R65 to R75). -/
theorem frontEndClocked_tapTick_finishTick (s : State) : FrontEndClocked s (tapTick s).finishTick := by
  simp [FrontEndClocked]

/-- A tick without a system reset moves the front end on, in the state that the step answers. -/
theorem frontEndClocked_of_step {s t : State} (h : step s = .next t) (hr : s.noSystemReset) : FrontEndClocked s t := by
  rw [step_next_of_noReset h hr]
  exact frontEndClocked_tapTick_finishTick s

/-- `s` with other levels at the three pins and in the three first stages. -/
def State.withLines (s : State) (tckS1 tmsS1 tdiS1 tck tms tdi : Bool) : State :=
  { s with tckS1 := tckS1, tmsS1 := tmsS1, tdiS1 := tdiS1, inp := { s.inp with tck := tck, tms := tms, tdi := tdi } }

section
variable (s : State) (tckS1 tmsS1 tdiS1 tck tms tdi : Bool)

/-- R35, R65: no output reads a pin or a first stage. -/
theorem State.outputs_withLines : (s.withLines tckS1 tmsS1 tdiS1 tck tms tdi).outputs = s.outputs := rfl

/-- R65: nor does the TAP path, whose actions read its own registers, the pulses, the sample latch and the read buses. -/
theorem sameTapPath_tapTick_withLines :
    SameTapPath (tapTick s) (tapTick (s.withLines tckS1 tmsS1 tdiS1 tck tms tdi)) := by
  refine ⟨?tap, ?ir, ?dr, ?wr⟩
  case tap => rw [tapTick_tap, tapTick_tap]; rfl
  case ir => rw [tapTick_ir, tapTick_ir]; rfl
  case dr => simp only [tapTick_dr, State.captureDr_dr, State.shiftDr_dr]; rfl
  case wr => simp only [tapTick_wr, State.updateWr_wr]; rfl

end

/-- The front end and the inputs of the next tick leave the TAP path's registers alone, so two ticks agree on them when
their TAP paths do. -/
theorem SameTapPath.finishTick {t u : State} (h : SameTapPath t u) : SameTapPath t.finishTick u.finishTick := by
  simpa [SameTapPath] using h

/-- Settles O9: one tick of the front end from each of the two states, whose second stages, `tck_prev` and latches are
the same, and the TAP path's tick, which reads neither pins nor first stages. -/
theorem synchronizerTakesPins : Obligations.SynchronizerTakesPins := by
  intro s hcfg hreset
  refine ⟨?loads, ?unread⟩
  case loads =>
    obtain ⟨hck1, hck2, hms1, hms2, hdi1, hdi2, hprev, -, -, -⟩ := frontEndClocked_tapTick_finishTick s
    exact ⟨_, step_of_wellFormed hcfg hreset, hck1, hck2, hms1, hms2, hdi1, hdi2, hprev⟩
  case unread =>
    intro a b c a' b' c' r hr
    obtain rfl : r = s.withLines a b c a' b' c' := hr
    refine ⟨State.outputs_withLines s a b c a' b' c', fun t t' ht ht' => ?_⟩
    have hreset' : (s.withLines a b c a' b' c').noSystemReset := hreset
    have htap : SameTapPath t t' := by
      rw [step_next_of_noReset ht hreset, step_next_of_noReset ht' hreset']
      exact (sameTapPath_tapTick_withLines s a b c a' b' c').finishTick
    obtain ⟨-, -, -, -, -, -, hprev, hlow, hmode, hdata⟩ := frontEndClocked_of_step ht hreset
    obtain ⟨-, -, -, -, -, -, hprev', hlow', hmode', hdata'⟩ := frontEndClocked_of_step ht' hreset'
    exact ⟨htap, hprev'.trans hprev.symm, hlow'.trans hlow.symm, hmode'.trans hmode.symm, hdata'.trans hdata.symm⟩

end Sys2Proof.Machine

namespace Sys2Proof.Machine

/-! ### The transition of a tick, and the states that only move on -/

/-- R78: a tick with a valid configuration and no system reset moves on at `falling` only, and then by NEXT. -/
theorem step_tap {s : State} (hcfg : s.cfg.wellFormed = true) (hreset : s.noSystemReset) :
    ∃ t, step s = .next t ∧ t.tap = if s.falling then nextState s.tap s.sampledMode else s.tap :=
  ⟨_, step_of_wellFormed hcfg hreset, by rw [State.finishTick_tap, tapTick_tap]⟩

/-- Settles O7: the TAP path's tick sets the state, and the front end leaves it alone. -/
theorem stateChangesOnlyAtFalling : Obligations.StateChangesOnlyAtFalling :=
  fun _ hcfg hreset => step_tap hcfg hreset

/-- Settles O8: the rows are the model's rows, one case for each state. -/
theorem nextIsTheTransitionTable : Obligations.NextIsTheTransitionTable := by
  intro S
  cases S <;> rfl

/-- R114: TDO is 0 outside the two shift states. -/
theorem State.tdo_of_not_shift {s : State} (hdr : s.tap ≠ .shdr) (hir : s.tap ≠ .shir) : s.tdo = false := by
  rw [State.tdo, if_neg hdr, if_neg hir]

/-- R82: the five states whose rules list a register action. -/
def actingStates : List TapState := [.tlr, .capdr, .shdr, .updr, .shir]

/-- R36, R82: in a state without a register action a tick keeps IR, DR and the write registers. -/
theorem tapTick_keeps_registers {s : State} (h : s.tap ∉ actingStates) :
    (tapTick s).ir = s.ir ∧ (tapTick s).dr = s.dr ∧ (tapTick s).wr = s.wr := by
  simp only [actingStates, List.mem_cons, List.not_mem_nil, or_false, not_or] at h
  obtain ⟨htlr, hcapdr, hshdr, hupdr, hshir⟩ := h
  refine ⟨?ir, ?dr, ?wr⟩
  case ir => simp [tapTick_ir, htlr, hshir]
  case dr => simp [tapTick_dr, hcapdr, hshdr]
  case wr => simp [tapTick_wr, hupdr]

/-- R78, R82, R114: in such a state a tick moves on at `falling`, shows TDO 0, and does nothing else to the TAP path. -/
theorem step_only_moves_on {s : State} {S : TapState} (htap : s.tap = S) (hact : S ∉ actingStates)
    (hcfg : s.cfg.wellFormed = true) (hreset : s.noSystemReset) :
    s.tdo = false ∧ ∃ t, step s = .next t ∧ t.ir = s.ir ∧ t.dr = s.dr ∧ t.wr = s.wr ∧
      t.tap = if s.falling then nextState S s.sampledMode else S := by
  subst htap
  have htdo : s.tdo = false :=
    State.tdo_of_not_shift (fun h => hact (by simp [h, actingStates])) (fun h => hact (by simp [h, actingStates]))
  obtain ⟨hir, hdr, hwr⟩ := tapTick_keeps_registers hact
  refine ⟨htdo, _, step_of_wellFormed hcfg hreset, ?_⟩
  simp [hir, hdr, hwr]

/-- Settles O18: neither EXIT1 state has a register action, so only the transition is left. -/
theorem exit1StatesOnlyMoveOn : Obligations.Exit1StatesOnlyMoveOn := by
  refine ⟨?exec, ?ticks⟩
  case exec =>
    intro m d s
    exact ⟨exec_eq_tapAction (.ex1dr m d) s, exec_eq_tapAction (.ex1ir m d) s⟩
  case ticks =>
    intro s hcfg hreset
    exact ⟨fun htap => step_only_moves_on htap (by decide) hcfg hreset,
      fun htap => step_only_moves_on htap (by decide) hcfg hreset⟩

end Sys2Proof.Machine

namespace Sys2Proof.Machine

/-! ### The two shift states -/

/-- R89: SHIFT-DR under an addressed code writes DR and the state, and nothing else. -/
theorem tapAction_shdr_of_some {s : State} {k : Nat} (m d : Bool) (h : s.sel = some k) :
    tapAction (.shdr m d) s =
      { s with dr := s.dr.shiftWithin (portWidth s.cfg k) d, tap := nextState .shdr m } := by
  simp only [tapAction, State.shiftDr_of_some d h, State.transition]

/-- Settles O21: the window of the addressed port is not empty and lies within DR, so its bits are those of R83. -/
theorem shiftDrWithinTheAddressedWidth : Obligations.ShiftDrWithinTheAddressedWidth := by
  rintro m d s k _ hwf hsel rfl
  obtain ⟨hcfg, -, hdr, -⟩ := State.wf_iff.mp hwf
  obtain ⟨hpos, hle⟩ := State.sel_width hcfg hsel
  rw [← hdr] at hle
  exact ⟨_, (exec_eq_tapAction _ s).trans (congrArg _ (tapAction_shdr_of_some m d hsel)),
    Word.width_shiftWithin .., fun _ hi => Word.bit_shiftWithin_below d hle hi, Word.bit_shiftWithin_top d hle hpos,
    fun _ hi => Word.bit_shiftWithin_above d hi, rfl⟩

/-- Settles O24: the window of SHIFT-IR is all of IR. -/
theorem shiftIrInsertsAtTheTop : Obligations.ShiftIrInsertsAtTheTop := by
  intro m d s hpos
  exact ⟨_, exec_eq_tapAction (.shir m d) s, Word.width_shiftWithin ..,
    fun _ hi => Word.bit_shiftWithin_below d le_rfl hi, Word.bit_shiftWithin_top d le_rfl hpos, rfl⟩

/-- R96: IR in a tick of SHIFT-IR, shifted at `falling` and kept otherwise. -/
theorem tapTick_ir_of_shir {s : State} (h : s.tap = .shir) :
    (tapTick s).ir = if s.falling then s.ir.shiftWithin s.ir.width s.sampledData else s.ir := by
  simp [tapTick_ir, h]

/-- Settles O25: the tick by whether it is a `falling` tick; the width of IR is at least 1 by the check of R131. -/
theorem shiftIrTicks : Obligations.ShiftIrTicks := by
  intro s hwf hreset htap
  obtain ⟨hcfg, hwidth, -, -⟩ := State.wf_iff.mp hwf
  have hpos : 1 ≤ s.ir.width := hwidth ▸ (passedChecks_of_wellFormed hcfg).irWidth_pos
  refine ⟨by simp [State.tdo, htap], _, step_of_wellFormed hcfg hreset, ?_⟩
  rw [State.finishTick_tap, State.finishTick_ir, tapTick_tap, tapTick_ir_of_shir htap, htap]
  cases s.falling with
  | true =>
    exact ⟨rfl, fun _ => ⟨rfl, fun _ hi => Word.bit_shiftWithin_below _ le_rfl hi,
      Word.bit_shiftWithin_top _ le_rfl hpos⟩, nofun⟩
  | false => exact ⟨rfl, nofun, fun _ => ⟨rfl, rfl⟩⟩

end Sys2Proof.Machine

namespace Sys2Proof.Machine

/-! ### The decoder and the write registers -/

/-- R127: the check for duplicates passes exactly when the list of addresses has none. -/
theorem duplicateAddresses_eq_false_iff (ports : List Port) :
    duplicateAddresses ports = false ↔ (ports.map Port.addr).Nodup := by
  induction ports with
  | nil => simp [duplicateAddresses]
  | cons p rest ih => simp [duplicateAddresses, ih]

/-- R127: two port numbers with the same address are the same number. -/
theorem port_eq_of_addr_eq {c : Config} (hc : c.wellFormed = true) {j k : Nat} (hj : j < c.ports.length)
    (hk : k < c.ports.length) (h : c.ports[j].addr = c.ports[k].addr) : j = k := by
  have hnodup := (duplicateAddresses_eq_false_iff c.ports).mp (passedChecks_of_wellFormed hc).distinct
  exact (hnodup.getElem_inj_iff (hi := by simpa using hj) (hj := by simpa using hk)).mp (by simpa using h)

/-- R106: with unique addresses the first port with the address is the only one, so its order does not matter. -/
theorem selectPort_eq_some_iff_addr {c : Config} (hc : c.wellFormed = true) {code k : Nat} :
    selectPort c code = some k ↔ ∃ h : k < c.ports.length, c.ports[k].addr = code := by
  rw [selectPort_eq_some_iff]
  constructor
  · rintro ⟨hk, haddr, -⟩
    exact ⟨hk, haddr⟩
  · rintro ⟨hk, haddr⟩
    refine ⟨hk, haddr, fun j hj hsame => ?_⟩
    have : j = k := port_eq_of_addr_eq hc (hj.trans hk) hk (hsame.trans haddr.symm)
    omega

/-- Settles O28: the decoder's search finds the addressed port, which the check of R127 makes the only one. -/
theorem decoderSelectsTheAddressedPort : Obligations.DecoderSelectsTheAddressedPort :=
  fun _ hc => ⟨fun _ => selectPort_eq_some_iff_addr hc, selectPort_eq_none_iff⟩

/-- R27: a well-formed state has one write register for each port. -/
theorem State.wr_length {s : State} (hwf : s.wf = true) : s.wr.length = s.cfg.ports.length := by
  obtain ⟨-, -, -, hwr⟩ := State.wf_iff.mp hwf
  simpa using congrArg List.length hwr

/-- R93, R111: the update writes the addressed port's write register and no other. -/
theorem State.updateWr_writeReg {s : State} {k : Nat} (hk : k < s.wr.length) :
    s.updateWr.writeReg k = if s.sel = some k then s.dr.resize (portWidth s.cfg k) else s.writeReg k := by
  cases hsel : s.sel with
  | none => simp [State.updateWr_of_none hsel]
  | some j =>
    by_cases hjk : j = k
    · subst hjk
      simp [State.writeReg, State.updateWr_of_some hsel, hk]
    · simp [State.writeReg, State.updateWr_of_some hsel, hjk]

/-- R111: a write register in one tick, written at a `falling` of UPDATE-DR of its own port, otherwise kept. -/
theorem tapTick_writeReg {s : State} {k : Nat} (hk : k < s.wr.length) :
    (tapTick s).writeReg k =
      if s.falling = true ∧ s.tap = .updr ∧ s.sel = some k then s.dr.resize (portWidth s.cfg k)
      else s.writeReg k := by
  by_cases hupd : s.falling = true ∧ s.tap = .updr
  · obtain ⟨hfalling, htap⟩ := hupd
    have hload : (tapTick s).writeReg k = s.updateWr.writeReg k := by
      simp only [State.writeReg, tapTick_wr, hfalling, htap, and_self, if_true]
    rw [hload, State.updateWr_writeReg hk]
    simp only [hfalling, htap, true_and]
  · have hhold : (tapTick s).writeReg k = s.writeReg k := by simp only [State.writeReg, tapTick_wr, if_neg hupd]
    rw [hhold, if_neg fun ⟨hfalling, htap, _⟩ => hupd ⟨hfalling, htap⟩]

/-- The front end and the inputs of the next tick write no write register. -/
@[simp] theorem State.finishTick_writeReg (s : State) (k : Nat) : s.finishTick.writeReg k = s.writeReg k := by
  simp [State.writeReg]

/-- Settles O32: the step is the TAP path's tick, which loads the addressed port's write register, and the front end. -/
theorem writeRegisterLoad : Obligations.WriteRegisterLoad := by
  intro s hwf hreset
  obtain ⟨hcfg, -, -, -⟩ := State.wf_iff.mp hwf
  refine ⟨_, step_of_wellFormed hcfg hreset, fun k hk => ?_⟩
  rw [State.finishTick_writeReg, tapTick_writeReg (State.wr_length hwf ▸ hk)]

end Sys2Proof.Machine

namespace Sys2Proof.Machine

/-! ### The configuration checks, and the machines that run -/

/-- R126, R121: a step is refused for the error that the configuration check reports, and for nothing else. -/
theorem step_eq_refused_iff {s : State} {r : Refusal} :
    step s = .refused r ↔ ∃ kind, configCheck s.cfg = some kind ∧ r = .configRejected kind := by
  cases hc : configCheck s.cfg with
  | none => simp [step_of_valid hc]
  | some kind => simp [step_of_invalid hc, eq_comm]

/-- Settles O40: a step is refused for the error of the configuration check only, and the error names its kind. -/
theorem failingConfigurationHasNoRun : Obligations.FailingConfigurationHasNoRun := by
  intro s kind
  simp [step_eq_refused_iff]

/-- R33, R121: a machine with a valid configuration takes its tick and keeps the configuration. -/
theorem step_next_of_wellFormed {s : State} (hcfg : s.cfg.wellFormed = true) :
    ∃ t, step s = .next t ∧ t.cfg = s.cfg := by
  refine ⟨_, step_of_valid (configCheck_of_wellFormed hcfg), ?_⟩
  cases s.inp.systemReset <;> simp

/-- A run of `n + 1` ticks is a tick and then a run of `n` from the state that it answers. -/
theorem core_run_succ_of_step {M : Host.Core} {s t : M.State} (n : Nat) (h : M.step s = .next t) :
    M.run (n + 1) s = M.run n t := by
  simp only [Host.Core.run, h]

/-- Settles O43, by induction on the number of ticks: every tick answers a state of the same configuration. -/
theorem validMachineNeverStops : Obligations.ValidMachineNeverStops := by
  intro s n hcfg
  induction n generalizing s with
  | zero => exact ⟨s, rfl⟩
  | succ n ih =>
    obtain ⟨t, hstep, hkeep⟩ := step_next_of_wellFormed hcfg
    obtain ⟨u, hrun⟩ := ih t (hkeep ▸ hcfg)
    exact ⟨u, (core_run_succ_of_step (M := Sys2Proof.core) n hstep).trans hrun⟩

/-- R127: the check for duplicates finds two port numbers with one address. -/
theorem duplicateAddresses_eq_true_iff {ports : List Port} :
    duplicateAddresses ports = true ↔
      ∃ i j, ∃ hi : i < ports.length, ∃ hj : j < ports.length, i ≠ j ∧ ports[i].addr = ports[j].addr := by
  rw [← Bool.not_eq_false, duplicateAddresses_eq_false_iff, List.nodup_iff_injective_getElem,
    Function.not_injective_iff]
  constructor
  · rintro ⟨⟨i, hi⟩, ⟨j, hj⟩, haddr, hne⟩
    rw [List.length_map] at hi hj
    exact ⟨i, j, hi, hj, by simpa using hne, by simpa using haddr⟩
  · rintro ⟨i, j, hi, hj, hne, haddr⟩
    exact ⟨⟨i, by simpa using hi⟩, ⟨j, by simpa using hj⟩, by simpa using haddr, by simpa using hne⟩

section
variable {W : Nat} {c : Config}

/-- R127 in the list of errors, whatever W is. -/
theorem duplicateAddress_mem_configErrorsWith :
    ConfigError.duplicateAddress ∈ configErrorsWith W c ↔ duplicateAddresses c.ports = true := by
  simp [configErrorsWith]

/-- R128 in the list of errors. -/
theorem widthExceedsDr_mem_configErrorsWith :
    ConfigError.widthExceedsDr ∈ configErrorsWith W c ↔ ∃ p ∈ c.ports, W < p.width := by
  simp [configErrorsWith]

/-- R129 in the list of errors, whatever W is. -/
theorem irTooNarrow_mem_configErrorsWith :
    ConfigError.irTooNarrow ∈ configErrorsWith W c ↔ ∃ p ∈ c.ports, 2 ^ c.irWidth ≤ p.addr := by
  simp [configErrorsWith]

end

/-- R11, R128: no port is wider than the W that the configuration gives. -/
theorem widthExceedsDr_not_mem_configErrors (c : Config) : ConfigError.widthExceedsDr ∉ configErrors c := by
  rw [configErrors, widthExceedsDr_mem_configErrorsWith]
  rintro ⟨p, hp, hlt⟩
  exact absurd (width_le_drWidth hp) (Nat.not_le.mpr hlt)

/-- Settles O41: each kind of error stands in the list exactly when its own check fails. -/
theorem sourceConfigurationChecks : Obligations.SourceConfigurationChecks := fun c =>
  ⟨duplicateAddress_mem_configErrorsWith.trans duplicateAddresses_eq_true_iff,
    fun _ => widthExceedsDr_mem_configErrorsWith, widthExceedsDr_not_mem_configErrors c,
    irTooNarrow_mem_configErrorsWith⟩

end Sys2Proof.Machine

namespace Sys2Proof

/-! ### The byte of a cycle word -/

/-- D27 (log 19): the two bits above the cycle word are 0 exactly in the bytes below 64. -/
theorem extractLsb'_above_eq_zero_iff (b : Byte) : b.extractLsb' 6 2 = 0#2 ↔ b.toNat < 64 := by
  rw [← BitVec.toNat_inj]
  simp only [BitVec.extractLsb'_toNat, Nat.shiftRight_eq_div_pow, BitVec.toNat_ofNat]
  have := b.isLt
  omega

/-- A byte below 64 decodes to what its six low bits stand for. -/
theorem decode_of_lt {b : Byte} (rest : List Byte) (h : b.toNat < 64) :
    decode (b :: rest) = .ok (decodeCycle (b.setWidth 6), rest) := by
  simp only [decode, if_pos ((extractLsb'_above_eq_zero_iff b).mpr h)]

/-- Any other byte is refused by name. -/
theorem decode_of_ge {b : Byte} (rest : List Byte) (h : 64 ≤ b.toNat) :
    decode (b :: rest) = .error .beyondSixBits := by
  simp only [decode, if_neg (mt (extractLsb'_above_eq_zero_iff b).mp (Nat.not_lt.mpr h))]

/-- The byte of a cycle word decodes to what the cycle word stands for. -/
theorem decode_setWidth (cw : BitVec 6) (rest : List Byte) :
    decode (cw.setWidth 8 :: rest) = .ok (decodeCycle cw, rest) := by
  have hnat : (cw.setWidth 8).toNat = cw.toNat := BitVec.toNat_setWidth_of_le (by decide)
  have hcw : (cw.setWidth 8).setWidth 6 = cw := by simp
  rw [decode_of_lt rest (hnat ▸ cw.isLt), hcw]

@[simp] theorem decodeCycle_encodeCycle (i : Instr) : decodeCycle (encodeCycle i) = i := by
  rw [encodeCycle, decodeCycle_cycleWordOf, Instr.ofState_fields]

/-- Settles O1: the byte of an instruction's cycle word decodes to what the word's fields stand for. -/
theorem decodeOfEncode : Obligations.DecodeOfEncode := by
  intro i rest
  rw [encode, List.singleton_append, decode_setWidth, decodeCycle_encodeCycle]

/-- R55: all 16 codes are used, each by one state. -/
@[simp] theorem TapState.code_ofCode (c : BitVec 4) : (TapState.ofCode c).code = c := by
  revert c; decide

/-- R56: a cycle word is put together from its three fields. -/
theorem append_fields_eq (cw : BitVec 6) :
    cw.extractLsb' 2 4 ++ BitVec.ofBool (cw.getLsbD 1) ++ BitVec.ofBool (cw.getLsbD 0) = cw := by
  refine BitVec.eq_of_getLsbD_eq fun i hi => ?_
  simp only [BitVec.getLsbD_append, BitVec.getLsbD_extractLsb', BitVec.getLsbD_ofBool]
  match i, hi with
  | 0, _ | 1, _ => simp
  | j + 2, hj => simp [show j < 4 by omega, Nat.add_comm 2 j]

@[simp] theorem encodeCycle_decodeCycle (cw : BitVec 6) : encodeCycle (decodeCycle cw) = cw := by
  simp only [encodeCycle, decodeCycle, cycleWordOf, Instr.tapState_ofState, Instr.mode_ofState,
    Instr.data_ofState, TapState.code_ofCode, append_fields_eq]

/-- Settles O2: a byte below 64 is its six low bits with zeros above, which is how the encoder writes a cycle word. -/
theorem encodeOfDecode : Obligations.EncodeOfDecode := by
  refine ⟨rfl, fun b rest => ⟨decode_of_ge rest, fun hlt => ⟨_, decode_of_lt rest hlt, ?_⟩⟩⟩
  have hb : (b.setWidth 6).setWidth 8 = b := by
    rw [← BitVec.toNat_inj]
    simp only [BitVec.toNat_setWidth]
    omega
  rw [encode, encodeCycle_decodeCycle, hb]

/-- Settles O3: each of the eight words is the byte of the cycle word of its instruction. -/
theorem wordsReadAsTheSpecWritesThem : Obligations.WordsReadAsTheSpecWritesThem := by
  unfold Obligations.WordsReadAsTheSpecWritesThem
  decide

/-- The table word of an instruction is the cycle word in its six low bits. -/
theorem decodeCycle_of_decodeTableWord {w : Nat} {i : Instr} (h : decodeTableWord 8 w = some i) :
    decodeCycle (BitVec.ofNat 6 w) = i := by
  have hbits : (BitVec.ofNat 8 (w % 2 ^ 8)).setWidth 6 = BitVec.ofNat 6 w := by
    rw [← BitVec.toNat_inj]
    simp only [BitVec.toNat_setWidth, BitVec.toNat_ofNat]
    omega
  have hread : decodeTableWord 8 w = match decode [BitVec.ofNat 8 (w % 2 ^ 8)] with
    | .ok (i, _) => some i
    | .error _ => none := rfl
  rw [hread] at h
  by_cases hlt : (BitVec.ofNat 8 (w % 2 ^ 8)).toNat < 64
  · rw [decode_of_lt [] hlt, hbits] at h
    exact Option.some.inj h
  · rw [decode_of_ge [] (Nat.not_lt.mp hlt)] at h
    cases h

namespace Machine

/-- The fixture puts the fields of the six low bits of the word into the registers the cycle word is fetched from. -/
theorem State.fetch_withFetchWord (s : State) (n w : Nat) :
    (s.withFetchWord n w).fetch = decodeCycle (BitVec.ofNat 6 w) := by
  have hcode : (BitVec.ofNat 6 w).extractLsb' 2 4 = BitVec.ofNat 4 (w / 4) := by
    rw [← BitVec.toNat_inj]
    simp only [BitVec.extractLsb'_toNat, Nat.shiftRight_eq_div_pow, BitVec.toNat_ofNat]
    omega
  rw [State.fetch_eq, decodeCycle, hcode]
  rfl

/-- Settles O4: the tick of the fixture is a `falling` tick that fetches the word's six low bits. -/
theorem placedWordIsFetched : Obligations.PlacedWordIsFetched := by
  intro s w i h
  exact ⟨(State.fetch_withFetchWord s 8 w).trans (decodeCycle_of_decodeTableWord h), rfl, rfl⟩

/-- Settles O5: the cycle word's byte decodes to the instruction fetched, whose action is the TAP path's tick. -/
theorem fallingTickRunsTheDecodedInstruction : Obligations.FallingTickRunsTheDecodedInstruction := by
  intro s t i hdecode hcfg hreset hfalling hexec
  have hi : s.fetch = i := by
    rw [decode_setWidth] at hdecode
    simpa [State.fetch] using hdecode
  have ht : tapTick s = t := by
    rw [tapTick, if_pos hfalling, hi]
    simpa [exec_eq_tapAction] using hexec
  refine ⟨_, step_of_wellFormed hcfg hreset, ?_, frontEndClocked_tapTick_finishTick s, by simp⟩
  simp [SameTapPath, ht]

end Machine

end Sys2Proof

namespace Sys2Proof.Machine

/-! ### The widths of the registers, and what reset gives -/

/-- R25: the reload gives IR its configured width, and a shift keeps the width. -/
theorem tapTick_ir_width {s : State} (h : s.ir.width = s.cfg.irWidth) : (tapTick s).ir.width = s.cfg.irWidth := by
  rw [tapTick_ir]
  split
  · rfl
  · split <;> exact h

/-- R26, R88: a capture gives DR the width W. -/
theorem State.captureDr_dr_width {s : State} (h : s.dr.width = s.cfg.drWidth) :
    s.captureDr.dr.width = s.cfg.drWidth := by
  cases hsel : s.sel with
  | none => rw [State.captureDr_of_none hsel, h]
  | some k => rw [State.captureDr_of_some hsel, Word.width_resize]

/-- R83: a shift keeps the width of DR. -/
theorem State.shiftDr_dr_width (s : State) (d : Bool) : (s.shiftDr d).dr.width = s.dr.width := by
  cases hsel : s.sel with
  | none => rw [State.shiftDr_of_none d hsel]
  | some k => rw [State.shiftDr_of_some d hsel, Word.width_shiftWithin]

/-- R26: every tick leaves DR at the width W. -/
theorem tapTick_dr_width {s : State} (h : s.dr.width = s.cfg.drWidth) : (tapTick s).dr.width = s.cfg.drWidth := by
  rw [tapTick_dr]
  split
  · exact State.captureDr_dr_width h
  · split
    · rw [State.shiftDr_dr_width, h]
    · exact h

/-- R27, R93: the update loads a value of the addressed port's own width. -/
theorem State.updateWr_wr_widths {s : State} (h : s.wr.map Word.width = s.cfg.ports.map Port.width) :
    s.updateWr.wr.map Word.width = s.cfg.ports.map Port.width := by
  cases hsel : s.sel with
  | none => rw [State.updateWr_of_none hsel, h]
  | some k =>
    have hk : k < (s.cfg.ports.map Port.width).length := by simpa using State.sel_lt hsel
    have hwidth : portWidth s.cfg k = (s.cfg.ports.map Port.width)[k] := by
      simp [portWidth_of_lt (State.sel_lt hsel)]
    rw [State.updateWr_of_some hsel, List.map_set, h, Word.width_resize, hwidth, List.set_getElem_self]

/-- R27: every tick leaves each write register at its port's width. -/
theorem tapTick_wr_widths {s : State} (h : s.wr.map Word.width = s.cfg.ports.map Port.width) :
    (tapTick s).wr.map Word.width = s.cfg.ports.map Port.width := by
  rw [tapTick_wr]
  split
  · exact State.updateWr_wr_widths h
  · exact h

/-- The TAP path's tick keeps the widths. -/
theorem tapTick_wf {s : State} (h : s.wf = true) : (tapTick s).wf = true := by
  obtain ⟨hcfg, hir, hdr, hwr⟩ := State.wf_iff.mp h
  refine State.wf_iff.mpr ⟨?_, ?_, ?_, ?_⟩ <;> rw [tapTick_cfg]
  · exact hcfg
  · exact tapTick_ir_width hir
  · exact tapTick_dr_width hdr
  · exact tapTick_wr_widths hwr

/-- The front end and the inputs have no part in well-formedness. -/
@[simp] theorem State.finishTick_wf (s : State) : s.finishTick.wf = s.wf := by simp [State.wf, State.widthsOk]

@[simp] theorem State.advanceInputs_wf (s : State) : s.advanceInputs.wf = s.wf := by simp [State.wf, State.widthsOk]

/-- R140: the reset values have the configured widths. -/
@[simp] theorem State.resetRegisters_wf (s : State) : s.resetRegisters.wf = s.cfg.wellFormed := by
  simp [State.wf, State.widthsOk, Function.comp_def]

/-- R139: a step with a system reset takes every register to its reset value. -/
theorem step_next_of_systemReset {s t : State} (hstep : step s = .next t) (hreset : s.inp.systemReset = true) :
    t = s.systemResetTick := by
  obtain ⟨hc, -⟩ := step_next_cases hstep
  simpa [step_of_valid hc, hreset, eq_comm] using hstep

/-- Settles O44: a step is a system reset, whose values have the configured widths, or the TAP path's tick, whose
writers of IR, DR and the write registers keep the widths. -/
theorem stepKeepsWellFormed : Obligations.StepKeepsWellFormed := by
  intro s t hwf hstep
  obtain ⟨hcfg, -, -, -⟩ := State.wf_iff.mp hwf
  cases hreset : s.inp.systemReset with
  | true =>
    obtain rfl := step_next_of_systemReset hstep hreset
    exact ⟨by rw [State.systemResetTick, State.advanceInputs_wf, State.resetRegisters_wf, hcfg],
      State.systemResetTick_cfg s⟩
  | false =>
    obtain rfl := step_next_of_noReset hstep hreset
    exact ⟨by rw [State.finishTick_wf, tapTick_wf hwf], by rw [State.finishTick_cfg, tapTick_cfg]⟩

/-- Settles O45: the reset values have the widths of whatever valid configuration, the worked scenario's among them. -/
theorem resetIsWellFormed : Obligations.ResetIsWellFormed := by
  have hwf : ∀ c i p, c.wellFormed = true → (State.resetWith c i p).wf = true := fun c i p hc => by
    rw [State.resetWith, State.resetRegisters_wf, hc]
  exact ⟨hwf, hwf _ _ _ (by decide)⟩

/-- R107, R108: no strobe is high in a tick without a falling pulse. -/
theorem State.strobes_of_not_falling {s : State} (h : s.falling = false) (k : Nat) :
    s.capture k = false ∧ s.update k = false := by
  simp [State.capture, State.update, h]

/-- R113: outside its update tick a write bus shows its write register. -/
theorem State.writeBus_of_not_update {s : State} {k : Nat} (h : s.update k = false) : s.writeBus k = s.writeReg k := by
  simp [State.writeBus, h]

/-- R35: the outputs toward port `k` are the four of R21. -/
theorem State.outputs_ports_getElem? {s : State} {k : Nat} (h : k < s.cfg.ports.length) :
    s.outputs.ports[k]? = some ⟨s.capture k, s.update k, s.resetStrobe, s.writeBus k⟩ := by
  simp [State.outputs, h]

/-- R140: every write register is 0 after reset. -/
theorem State.resetWith_writeReg {c : Config} {k : Nat} (i : Inputs) (p : List Inputs) (h : k < c.ports.length) :
    (State.resetWith c i p).writeReg k = Word.zero (portWidth c k) := by
  simp [State.writeReg, portWidth_of_lt h, h]

/-- Settles O47: with `tck_prev` and `tck_s2` at 0 there is no pulse, so no strobe and no bypassed value. -/
theorem resetRegistersAndOutputs : Obligations.ResetRegistersAndOutputs := by
  rintro c i p _ rfl
  refine ⟨rfl, rfl, rfl, rfl, rfl, rfl, rfl, rfl, rfl, rfl, rfl, rfl, rfl, rfl, rfl, fun k hk => ?_⟩
  obtain ⟨hcapture, hupdate⟩ := State.strobes_of_not_falling (s := State.resetWith c i p) rfl k
  rw [State.outputs_ports_getElem? hk, hcapture, hupdate, State.writeBus_of_not_update hupdate,
    State.resetWith_writeReg i p hk]
  rfl

/-- Settles O48: the reset values depend on the configuration alone. -/
theorem systemResetOverridesEverything : Obligations.SystemResetOverridesEverything := by
  intro s hcfg hreset
  refine ⟨s.systemResetTick, ?step, State.systemResetTick_cfg s, fun i p => ?registers⟩
  case step => rw [step_of_valid (configCheck_of_wellFormed hcfg), if_pos hreset]
  case registers => simp [SameRegisters, SameTapPath, SameFrontEnd]

end Sys2Proof.Machine

namespace Sys2Proof.Machine

/-! ### Ticks without a falling pulse -/

/-- R81, R104: a tick without `falling` only reloads IR, and only in TEST-LOGIC-RESET. -/
theorem tapTick_of_not_falling {s : State} (h : s.falling = false) :
    (tapTick s).tap = s.tap ∧ (tapTick s).dr = s.dr ∧ (tapTick s).wr = s.wr ∧
      (tapTick s).ir = if s.tap = .tlr then Word.ofNat s.cfg.irWidth s.cfg.irReset else s.ir := by
  simp [tapTick_dr, tapTick_wr, tapTick_ir, h]

/-- The same of a step, with the configuration. -/
theorem step_of_not_falling {s t : State} (hstep : step s = .next t) (hreset : s.noSystemReset)
    (hfalling : s.falling = false) :
    t.cfg = s.cfg ∧ t.tap = s.tap ∧ t.dr = s.dr ∧ t.wr = s.wr ∧
      t.ir = if s.tap = .tlr then Word.ofNat s.cfg.irWidth s.cfg.irReset else s.ir := by
  obtain rfl := step_next_of_noReset hstep hreset
  simpa using tapTick_of_not_falling hfalling

/-- Settles O6: the front end of the tick, and the reload that is all the TAP path does. -/
theorem tickWithoutFallingKeepsTheTapPath : Obligations.TickWithoutFallingKeepsTheTapPath := by
  intro s hcfg hreset hfalling
  have hstep := step_of_wellFormed hcfg hreset
  exact ⟨_, hstep, frontEndClocked_of_step hstep hreset, step_of_not_falling hstep hreset hfalling⟩

/-- A run without a system reset splits into its first tick and the rest. -/
theorem uninterrupted_cons {s : State} {trace : List State} :
    Uninterrupted (s :: trace) ↔ s.noSystemReset ∧ Uninterrupted trace := List.forall_mem_cons

/-- Settles O15, by induction on the run: a tick reloads IR or leaves it, and a second reload gives the same value. -/
theorem noEdgesNoMutation : Obligations.NoEdgesNoMutation := by
  intro s u trace hrun hun hquiet
  induction hrun with
  | done s => simp
  | @tick s t u trace hstep _ ih =>
    obtain ⟨hreset, hun⟩ := uninterrupted_cons.mp hun
    obtain ⟨hfalling, hquiet⟩ := List.forall_mem_cons.mp hquiet
    obtain ⟨hcfg, htap, hdr, hwr, hir⟩ := step_of_not_falling hstep hreset hfalling
    obtain ⟨htap', hdr', hwr', hir'⟩ := ih hun hquiet
    refine ⟨htap'.trans htap, hdr'.trans hdr, hwr'.trans hwr, ?_⟩
    rw [hir', hir, htap, hcfg]
    by_cases htlr : s.tap = .tlr <;> simp [htlr]

/-! ### From the pins to the pulses -/

section
variable {s t u v : State}

/-- R66: two ticks later the second stages show the pins. -/
theorem secondStages_of_two_ticks (hst : step s = .next t) (htu : step t = .next u) (hs : s.noSystemReset)
    (ht : t.noSystemReset) : u.tckS2 = s.inp.tck ∧ u.tmsS2 = s.inp.tms ∧ u.tdiS2 = s.inp.tdi := by
  obtain ⟨hck, -, hms, -, hdi, -⟩ := frontEndClocked_of_step hst hs
  obtain ⟨-, hck', -, hms', -, hdi', -⟩ := frontEndClocked_of_step htu ht
  exact ⟨hck'.trans hck, hms'.trans hms, hdi'.trans hdi⟩

/-- R69, R73: three ticks later `tck_prev` shows the pin. -/
theorem tckPrev_of_three_ticks (hst : step s = .next t) (htu : step t = .next u) (huv : step u = .next v)
    (hs : s.noSystemReset) (ht : t.noSystemReset) (hu : u.noSystemReset) : v.tckPrev = s.inp.tck := by
  obtain ⟨-, -, -, -, -, -, hprev, -⟩ := frontEndClocked_of_step huv hu
  exact hprev.trans (secondStages_of_two_ticks hst htu hs ht).1

/-- R75: the latch takes the second stages of a `rising` tick and holds them over any other. -/
theorem sample_of_step (hst : step s = .next t) (hs : s.noSystemReset) :
    t.sampledMode = (if s.rising then s.tmsS2 else s.sampledMode) ∧
      t.sampledData = (if s.rising then s.tdiS2 else s.sampledData) := by
  obtain ⟨-, -, -, -, -, -, -, -, hmode, hdata⟩ := frontEndClocked_of_step hst hs
  exact ⟨hmode, hdata⟩

end

/-- Settles O10: two ticks of the front end, and one from the zeros of reset, whose reset may be applied again. -/
theorem synchronizerLatencyIsTwoTicks : Obligations.SynchronizerLatencyIsTwoTicks := by
  refine ⟨fun s t u hst htu hs ht => secondStages_of_two_ticks hst htu hs ht, fun c i p t hstep => ?_⟩
  have hzero : t.tckS2 = false ∧ t.tmsS2 = false ∧ t.tdiS2 = false := by
    cases hreset : i.systemReset with
    | true =>
      simp [step_next_of_systemReset hstep hreset]
    | false =>
      obtain ⟨-, hck, -, hms, -, hdi, -⟩ := frontEndClocked_of_step hstep hreset
      exact ⟨hck, hms, hdi⟩
  exact ⟨rfl, rfl, rfl, rfl, rfl, rfl, hzero⟩

/-- Settles O11: `tck_prev` and `tck_s2` of the third tick show the pin before and after its rise, and the latch takes
the second stages, which show the pins of the first high tick. -/
theorem pinRiseIsSampled : Obligations.PinRiseIsSampled := by
  intro a b c d e hab hbc hcd hde ha hb hc hd hlow hhigh
  obtain ⟨hck, hms, hdi⟩ := secondStages_of_two_ticks hbc hcd hb hc
  have hprev := tckPrev_of_three_ticks hab hbc hcd ha hb hc
  have hrising : d.rising = true := by simp [State.rising, hprev, hck, hlow, hhigh]
  obtain ⟨hmode, hdata⟩ := sample_of_step hde hd
  rw [if_pos hrising] at hmode hdata
  exact ⟨hrising, hmode.trans hms, hdata.trans hdi⟩

/-- Settles O12: the same of a fall, whose tick the TAP path acts in and `settled_low` records. -/
theorem pinFallActsThreeTicksLater : Obligations.PinFallActsThreeTicksLater := by
  intro a b c d e hab hbc hcd hde ha hb hc hd hhigh hlow
  obtain ⟨hck, -, -⟩ := secondStages_of_two_ticks hbc hcd hb hc
  have hprev := tckPrev_of_three_ticks hab hbc hcd ha hb hc
  have hfalling : d.falling = true := by simp [State.falling, hprev, hck, hlow, hhigh]
  obtain rfl := step_next_of_noReset hde hd
  exact ⟨hfalling, by simp [hfalling], by simp [hfalling]⟩

/-- R75: over a run without a `rising` tick the latch holds. -/
theorem Ticks.sample_of_no_rising {t u : State} {trace : List State} (hrun : Ticks t trace u)
    (hun : Uninterrupted trace) (hquiet : ∀ x ∈ trace, x.rising = false) :
    u.sampledMode = t.sampledMode ∧ u.sampledData = t.sampledData := by
  induction hrun with
  | done => exact ⟨rfl, rfl⟩
  | @tick s t u trace hstep _ ih =>
    obtain ⟨hreset, hun⟩ := uninterrupted_cons.mp hun
    obtain ⟨hrising, hquiet⟩ := List.forall_mem_cons.mp hquiet
    obtain ⟨hmode, hdata⟩ := sample_of_step hstep hreset
    obtain ⟨hmode', hdata'⟩ := ih hun hquiet
    simp only [hrising, Bool.false_eq_true, if_false] at hmode hdata
    exact ⟨hmode'.trans hmode, hdata'.trans hdata⟩

/-- Settles O13: the `rising` tick latches its second stages, and the latch holds until the action. -/
theorem actionUsesTheLatestSample : Obligations.ActionUsesTheLatestSample := by
  intro s t u trace hstep hrun hreset hun hrising hquiet _
  obtain ⟨hmode, hdata⟩ := sample_of_step hstep hreset
  obtain ⟨hmode', hdata'⟩ := hrun.sample_of_no_rising hun hquiet
  rw [if_pos hrising] at hmode hdata
  rw [State.fetch_eq, hmode', hdata', hmode, hdata]

/-! ### The pulses of a run -/

/-- R70, R71: a pulse is a change of the second stage, of the kind of its new level. -/
theorem pulses_cons (s : State) (trace : List State) :
    pulses (s :: trace) = if s.tckS2 = s.tckPrev then pulses trace else s.tckS2 :: pulses trace := by
  cases hprev : s.tckPrev <;> cases hck : s.tckS2 <;> simp [pulses, State.rising, State.falling, hprev, hck]

/-- R72: the pulses of a run alternate, and the first is not of the kind of the level that `tck_prev` holds. -/
theorem Ticks.isChain_tckPrev_cons_pulses {s u : State} {trace : List State} (hrun : Ticks s trace u)
    (hun : Uninterrupted trace) : (s.tckPrev :: pulses trace).IsChain (· ≠ ·) := by
  induction hrun with
  | done => simp [pulses]
  | @tick s t u trace hstep _ ih =>
    obtain ⟨hreset, hun⟩ := uninterrupted_cons.mp hun
    obtain ⟨-, -, -, -, -, -, hprev, -⟩ := frontEndClocked_of_step hstep hreset
    have ih := ih hun
    rw [hprev] at ih
    rw [pulses_cons]
    split
    case isTrue hsame => rwa [← hsame]
    case isFalse hchange => exact List.isChain_cons_cons.mpr ⟨Ne.symm hchange, ih⟩

/-- Settles O14: the pulses follow the level of `tck_prev`, which is 0 after reset. -/
theorem pulsesAlternate : Obligations.PulsesAlternate := by
  intro s u trace hrun hun
  have hchain := hrun.isChain_tckPrev_cons_pulses hun
  refine ⟨hchain.tail, ?_⟩
  rintro ⟨c, i, p, rfl⟩ hfirst
  obtain ⟨rest, hpulses⟩ := List.head?_eq_some_iff.mp hfirst
  rw [hpulses, List.isChain_cons_cons] at hchain
  exact hchain.1 rfl

end Sys2Proof.Machine

namespace Sys2Proof.Machine

/-! ### The instructions -/

/-- Settles O16: the reload of every tick, at its full value by the check of R130, and the row of TEST-LOGIC-RESET. -/
theorem testLogicResetReloadsIr : Obligations.TestLogicResetReloadsIr := by
  intro s hcfg hreset htap
  have hir : (tapTick s).finishTick.ir = Word.ofNat s.cfg.irWidth s.cfg.irReset := by
    rw [State.finishTick_ir, tapTick_ir, if_pos htap]
  refine ⟨by simp [State.resetStrobe, htap], _, step_of_wellFormed hcfg hreset, hir, ?value, ?dr, ?wr, ?tap⟩
  case value => rw [hir, toNat_ofNat_irReset hcfg]
  case dr => simp [tapTick_dr, htap]
  case wr => simp [tapTick_wr, htap]
  case tap =>
    rw [State.finishTick_tap, tapTick_tap, htap]
    cases s.falling <;> cases s.sampledMode <;> rfl

/-- Settles O17: the reload and the row of TEST-LOGIC-RESET, as the instruction's meaning puts them together. -/
theorem tlrCompletes : Obligations.TlrCompletes :=
  fun m d s => exec_eq_tapAction (.tlr m d) s

/-- Settles O19: each of the nine meanings is the transition alone. -/
theorem statesWithoutActionOnlyMoveOn : Obligations.StatesWithoutActionOnlyMoveOn := fun m d s =>
  ⟨exec_eq_tapAction (.rti m d) s, exec_eq_tapAction (.seldr m d) s, exec_eq_tapAction (.padr m d) s,
    exec_eq_tapAction (.ex2dr m d) s, exec_eq_tapAction (.selir m d) s, exec_eq_tapAction (.capir m d) s,
    exec_eq_tapAction (.pair m d) s, exec_eq_tapAction (.ex2ir m d) s, exec_eq_tapAction (.upir m d) s⟩

/-- Settles O26: the actions write IR, DR and the write registers in the states listed for each. -/
theorem execFrame : Obligations.ExecFrame := by
  intro i s
  refine ⟨tapAction i s, exec_eq_tapAction i s, tapAction_frontEnd i s, tapAction_cfg i s, tapAction_inp i s,
    tapAction_pending i s, tapAction_tick i s, tapAction_tap i s, ?ir, ?dr, ?wr⟩
  case ir =>
    intro htlr hshir
    rw [tapAction_ir]
    cases i
    case tlr => exact absurd rfl htlr
    case shir => exact absurd rfl hshir
    all_goals rfl
  case dr =>
    intro hcapdr hshdr
    rw [tapAction_dr]
    cases i
    case capdr => exact absurd rfl hcapdr
    case shdr => exact absurd rfl hshdr
    all_goals rfl
  case wr =>
    intro hupdr
    rw [tapAction_wr]
    cases i
    case updr => exact absurd rfl hupdr
    all_goals rfl

/-- R83, R88, R93: under an unaddressed code the three actions on ports do nothing. -/
theorem tapAction_capdr_of_none {s : State} (m d : Bool) (h : s.sel = none) :
    tapAction (.capdr m d) s = s.transition .capdr m := by
  rw [tapAction, State.captureDr_of_none h]

theorem tapAction_shdr_of_none {s : State} (m d : Bool) (h : s.sel = none) :
    tapAction (.shdr m d) s = s.transition .shdr m := by
  rw [tapAction, State.shiftDr_of_none d h]

theorem tapAction_updr_of_none {s : State} (m d : Bool) (h : s.sel = none) :
    tapAction (.updr m d) s = s.transition .updr m := by
  rw [tapAction, State.updateWr_of_none h]

/-- R88: CAPTURE-DR under an addressed code writes DR and the state, and nothing else. -/
theorem tapAction_capdr_of_some {s : State} {k : Nat} (m d : Bool) (h : s.sel = some k) :
    tapAction (.capdr m d) s =
      { s with dr := (s.readBus k).resize s.cfg.drWidth, tap := nextState .capdr m } := by
  simp only [tapAction, State.captureDr_of_some h, State.transition]

/-- R93: UPDATE-DR under an addressed code writes the write registers and the state, and nothing else. -/
theorem tapAction_updr_of_some {s : State} {k : Nat} (m d : Bool) (h : s.sel = some k) :
    tapAction (.updr m d) s =
      { s with wr := s.wr.set k (s.dr.resize (portWidth s.cfg k)), tap := nextState .updr m } := by
  simp only [tapAction, State.updateWr_of_some h, State.transition]

/-- R11: an addressed port is no wider than W, of whatever configuration. -/
theorem State.portWidth_le_drWidth {s : State} {k : Nat} (h : s.sel = some k) :
    portWidth s.cfg k ≤ s.cfg.drWidth := by
  rw [portWidth_of_lt (State.sel_lt h)]
  exact width_le_drWidth (List.getElem_mem _)

/-- R21: a read bus has its port's width, so its bits from there on read 0. -/
theorem State.readBus_bit_of_le {s : State} {k i : Nat} (h : portWidth s.cfg k ≤ i) :
    (s.readBus k).bit i = false :=
  Word.bit_of_width_le h

/-- Settles O20: the read bus zero-extended to W holds its own bits below its width, which W is at least, and zeros
above. -/
theorem captureLoadsReadBus : Obligations.CaptureLoadsReadBus := by
  intro m d s
  refine ⟨fun k hsel => ?addressed, fun hsel => ?unaddressed⟩
  case addressed =>
    have hle := State.portWidth_le_drWidth hsel
    refine ⟨_, (exec_eq_tapAction _ s).trans (congrArg _ (tapAction_capdr_of_some m d hsel)), rfl, fun i hi => ?_,
      fun i hi => ?_, rfl⟩
    · rw [Word.bit_resize, decide_eq_true (by omega), Bool.true_and]
    · rw [Word.bit_resize, State.readBus_bit_of_le hi, Bool.and_false]
  case unaddressed =>
    rw [exec_eq_tapAction, tapAction_capdr_of_none m d hsel]
    rfl

/-- Settles O22: the shift leaves an unaddressed machine as it is. -/
theorem shiftDrUnaddressedKeepsDr : Obligations.ShiftDrUnaddressedKeepsDr := by
  intro m d s hsel
  refine ⟨?exec, fun htap => by rw [State.tdo, if_pos htap]⟩
  case exec =>
    rw [exec_eq_tapAction, tapAction_shdr_of_none m d hsel]
    rfl

/-- Settles O23: the list of write registers is set at the addressed port, which a well-formed state has. -/
theorem updateWritesTheAddressedPort : Obligations.UpdateWritesTheAddressedPort := by
  intro m d s
  refine ⟨fun k hwf hsel => ?addressed, fun hsel => ?unaddressed⟩
  case addressed =>
    have hk : k < s.wr.length := State.wr_length hwf ▸ State.sel_lt hsel
    have hload : (tapAction (.updr m d) s).writeReg k = s.dr.resize (portWidth s.cfg k) := by
      simp [tapAction_updr_of_some m d hsel, State.writeReg, hk]
    refine ⟨_, exec_eq_tapAction _ s, ?width, fun i hi => ?bits, fun j hj => ?others, ?frame⟩
    case width => rw [hload, Word.width_resize]
    case bits => rw [hload, Word.bit_resize, decide_eq_true hi, Bool.true_and]
    case others => simp [tapAction_updr_of_some m d hsel, State.writeReg, hj.symm]
    case frame => rw [tapAction_updr_of_some m d hsel]; rfl
  case unaddressed =>
    rw [exec_eq_tapAction, tapAction_updr_of_none m d hsel]
    rfl

end Sys2Proof.Machine

namespace Sys2Proof.Machine

/-! ### The strobes, the write buses and TDO -/

/-- R107: the three conditions of a capture strobe. -/
theorem State.capture_eq_true_iff {s : State} {k : Nat} :
    s.capture k = true ↔ s.falling = true ∧ s.tap = .capdr ∧ s.sel = some k := by
  simp [State.capture, and_assoc]

/-- R108: the three conditions of an update strobe. -/
theorem State.update_eq_true_iff {s : State} {k : Nat} :
    s.update k = true ↔ s.falling = true ∧ s.tap = .updr ∧ s.sel = some k := by
  simp [State.update, and_assoc]

/-- R109: the one condition of the reset strobes. -/
theorem State.resetStrobe_eq_true_iff {s : State} : s.resetStrobe = true ↔ s.tap = .tlr := by
  simp [State.resetStrobe]

/-- R107, R108: a port that is not selected has no strobe. -/
theorem State.strobes_of_sel_ne {s : State} {k : Nat} (h : s.sel ≠ some k) :
    s.capture k = false ∧ s.update k = false := by
  simp [State.capture, State.update, h]

/-- R69, R71, R139: no `falling` tick follows another, not even over a system reset. -/
theorem falling_eq_false_of_step {s t : State} (hstep : step s = .next t) (h : s.falling = true) :
    t.falling = false := by
  have hlow : t.tckPrev = false := by
    cases hreset : s.inp.systemReset with
    | true => simp [step_next_of_systemReset hstep hreset]
    | false =>
      obtain ⟨-, -, -, -, -, -, hprev, -⟩ := frontEndClocked_of_step hstep hreset
      simp only [State.falling, Bool.and_eq_true, Bool.not_eq_true'] at h
      exact hprev.trans h.2
  simp [State.falling, hlow]

/-- Settles O29: the strobes are their conjunctions, whose `falling` pulse lasts one tick. -/
theorem strobesMarkTheActions : Obligations.StrobesMarkTheActions := by
  intro s k hcfg
  have hsel : s.sel = some k ↔ ∃ h : k < s.cfg.ports.length, s.cfg.ports[k].addr = s.ir.toNat :=
    selectPort_eq_some_iff_addr hcfg
  refine ⟨?capture, ?update, fun hcapture t hstep => ?_, fun hupdate t hstep => ?_, fun hnone => ?unaddressed⟩
  case capture => rw [State.capture_eq_true_iff, hsel]
  case update => rw [State.update_eq_true_iff, hsel]
  · obtain ⟨hfalling, -, -⟩ := State.capture_eq_true_iff.mp hcapture
    exact (State.strobes_of_not_falling (falling_eq_false_of_step hstep hfalling) k).1
  · obtain ⟨hfalling, -, -⟩ := State.update_eq_true_iff.mp hupdate
    exact (State.strobes_of_not_falling (falling_eq_false_of_step hstep hfalling) k).2
  case unaddressed => exact State.strobes_of_sel_ne (by simp [hnone])

/-- Settles O30: the strobe is the level of the state, which a tick changes at `falling` only. -/
theorem resetStrobeIsALevel : Obligations.ResetStrobeIsALevel := by
  refine ⟨fun s o ho => ?level, fun s hcfg hreset => ?tick, fun c i p => rfl⟩
  case level =>
    obtain ⟨k, -, rfl⟩ := List.mem_map.mp ho
    exact State.resetStrobe_eq_true_iff
  case tick =>
    obtain ⟨t, hstep, htap⟩ := step_tap hcfg hreset
    refine ⟨t, hstep, ?_⟩
    rw [State.resetStrobe_eq_true_iff, State.resetStrobe_eq_true_iff, htap]
    split <;> rfl

/-- Settles O31: each strobe names its state and the selected port. -/
theorem atMostOneStrobe : Obligations.AtMostOneStrobe := by
  intro s j k
  refine ⟨fun hj hk => ?captures, fun hj hk => ?updates, ?both, fun hlevel => ?level, fun hsel hne => ?others⟩
  case captures =>
    obtain ⟨-, -, hj⟩ := State.capture_eq_true_iff.mp hj
    obtain ⟨-, -, hk⟩ := State.capture_eq_true_iff.mp hk
    exact Option.some.inj (hj.symm.trans hk)
  case updates =>
    obtain ⟨-, -, hj⟩ := State.update_eq_true_iff.mp hj
    obtain ⟨-, -, hk⟩ := State.update_eq_true_iff.mp hk
    exact Option.some.inj (hj.symm.trans hk)
  case both =>
    rintro ⟨hj, hk⟩
    obtain ⟨-, hcapdr, -⟩ := State.capture_eq_true_iff.mp hj
    obtain ⟨-, hupdr, -⟩ := State.update_eq_true_iff.mp hk
    exact absurd (hcapdr.symm.trans hupdr) (by decide)
  case level => simp [State.capture, State.update, State.resetStrobe_eq_true_iff.mp hlevel]
  case others => exact State.strobes_of_sel_ne (by simp [hsel, hne.symm])

/-- R112: with the bypass an update strobe puts the value being written on the bus. -/
theorem State.writeBus_of_bypass {s : State} (h : s.cfg.writeBusBypass = true) (k : Nat) :
    s.writeBus k = if s.update k then s.dr.resize (portWidth s.cfg k) else s.writeReg k := by
  simp [State.writeBus, h]

/-- R113: without it the bus always shows the write register. -/
theorem State.writeBus_of_no_bypass {s : State} (h : s.cfg.writeBusBypass = false) (k : Nat) :
    s.writeBus k = s.writeReg k := by
  simp [State.writeBus, h]

/-- Settles O33: the bypassed bus and the write register of the next state follow the same three conditions. -/
theorem writeBusShowsTheNextValue : Obligations.WriteBusShowsTheNextValue := by
  intro s k hwf hreset hk
  refine ⟨fun hbypass => ?_, fun hbypass => State.writeBus_of_no_bypass hbypass k⟩
  obtain ⟨t, hstep, hload⟩ := writeRegisterLoad s hwf hreset
  refine ⟨t, hstep, ?_⟩
  rw [hload k hk, State.writeBus_of_bypass hbypass]
  simp only [State.update_eq_true_iff]

/-- Settles O36: the owner adopts the write bus of its update tick. -/
theorem ownerAdoptsTheScannedValue : Obligations.OwnerAdoptsTheScannedValue := by
  intro s k r own hupdate howner
  have hown : own = s.writeBus k := howner.1 hupdate
  refine ⟨fun hbypass => ?_, fun hbypass => hown.trans (State.writeBus_of_no_bypass hbypass k)⟩
  rw [hown, State.writeBus_of_bypass hbypass, if_pos hupdate]

/-- R114 in SHIFT-DR. -/
theorem State.tdo_of_shdr {s : State} (h : s.tap = .shdr) : s.tdo = s.dr.bit 0 := by simp [State.tdo, h]

/-- R114 in SHIFT-IR. -/
theorem State.tdo_of_shir {s : State} (h : s.tap = .shir) : s.tdo = s.ir.bit 0 := by simp [State.tdo, h]

/-- Settles O34: TDO in the two shift states, and in the fourteen others. -/
theorem tdoByState : Obligations.TdoByState := fun _ =>
  ⟨State.tdo_of_shdr, State.tdo_of_shir, State.tdo_of_not_shift⟩

/-- R81, R115: TDO reads the state, DR, and IR where the state is not TEST-LOGIC-RESET. -/
theorem State.tdo_congr {s t : State} (htap : t.tap = s.tap) (hdr : t.dr = s.dr) (hir : s.tap ≠ .tlr → t.ir = s.ir) :
    t.tdo = s.tdo := by
  by_cases hshir : s.tap = .shir
  · rw [State.tdo_of_shir hshir, State.tdo_of_shir (htap.trans hshir), hir (by simp [hshir])]
  · simp only [State.tdo, htap, hdr, if_neg hshir]

/-- Settles O35: such a tick only reloads IR in TEST-LOGIC-RESET, where TDO does not read it. -/
theorem tdoHoldsBetweenFallingTicks : Obligations.TdoHoldsBetweenFallingTicks := by
  intro s t hstep hreset hfalling
  obtain ⟨-, htap, hdr, -, hir⟩ := step_of_not_falling hstep hreset hfalling
  exact State.tdo_congr htap hdr fun htlr => by rw [hir, if_neg htlr]

/-- Settles O37: none of the seven states is one that acts on DR or a port. -/
theorem irPathActsOnNoPort : Obligations.IrPathActsOnNoPort := by
  intro s t htap
  have hother : ∀ S ∈ [TapState.selir, .capir, .shir, .ex1ir, .pair, .ex2ir, .upir],
      S ≠ .capdr ∧ S ≠ .shdr ∧ S ≠ .updr := by decide
  obtain ⟨hcapdr, hshdr, hupdr⟩ := hother _ htap
  refine ⟨fun k => by simp [State.capture, State.update, hcapdr, hupdr], fun hstep hreset => ?_⟩
  obtain rfl := step_next_of_noReset hstep hreset
  simp [tapTick_dr, tapTick_wr, hcapdr, hshdr, hupdr]

/-! ### The inputs that no rule reads, or only the capture -/

/-- `s` with other inputs of its tick. -/
def State.withInp (s : State) (i : Inputs) : State := { s with inp := i }

section
variable {s : State} {i : Inputs}

/-- R35: the outputs read registers only. -/
theorem State.outputs_withInp : (s.withInp i).outputs = s.outputs := rfl

/-- R88: the capture reads the selected port's bus. -/
theorem State.captureDr_withInp (h : ∀ k, s.sel = some k → (s.withInp i).readBus k = s.readBus k) :
    (s.withInp i).captureDr = s.captureDr.withInp i := by
  cases hsel : s.sel with
  | none => rw [State.captureDr_of_none hsel, State.captureDr_of_none (s := s.withInp i) hsel]
  | some k =>
    rw [State.captureDr_of_some hsel, State.captureDr_of_some (s := s.withInp i) hsel, h k hsel]
    rfl

theorem State.shiftDr_withInp (d : Bool) : (s.withInp i).shiftDr d = (s.shiftDr d).withInp i := by
  cases hsel : s.sel with
  | none => rw [State.shiftDr_of_none d hsel, State.shiftDr_of_none (s := s.withInp i) d hsel]
  | some k =>
    rw [State.shiftDr_of_some d hsel, State.shiftDr_of_some (s := s.withInp i) d hsel]
    rfl

theorem State.updateWr_withInp : (s.withInp i).updateWr = s.updateWr.withInp i := by
  cases hsel : s.sel with
  | none => rw [State.updateWr_of_none hsel, State.updateWr_of_none (s := s.withInp i) hsel]
  | some k =>
    rw [State.updateWr_of_some hsel, State.updateWr_of_some (s := s.withInp i) hsel]
    rfl

/-- R15, R88: the capture is the only action that reads an input. -/
theorem tapAction_withInp {a : Instr}
    (h : a.tapState = .capdr → ∀ k, s.sel = some k → (s.withInp i).readBus k = s.readBus k) :
    tapAction a (s.withInp i) = (tapAction a s).withInp i := by
  cases a
  case capdr m d => rw [tapAction, State.captureDr_withInp (h rfl)]; rfl
  case shdr m d => rw [tapAction, State.shiftDr_withInp]; rfl
  case updr m d => rw [tapAction, State.updateWr_withInp]; rfl
  all_goals rfl

theorem State.idleTick_withInp : (s.withInp i).idleTick = s.idleTick.withInp i := by
  by_cases htlr : s.tap = .tlr
  · rw [State.idleTick, State.idleTick, if_pos htlr, if_pos (show (s.withInp i).tap = .tlr from htlr)]; rfl
  · rw [State.idleTick, State.idleTick, if_neg htlr, if_neg (show ¬(s.withInp i).tap = .tlr from htlr)]

/-- R116: the TAP path's tick reads the read buses with a capture strobe only. -/
theorem tapTick_withInp (h : ∀ k, s.capture k = true → (s.withInp i).readBus k = s.readBus k) :
    tapTick (s.withInp i) = (tapTick s).withInp i := by
  have hpulse : (s.withInp i).falling = s.falling := rfl
  have hfetch : (s.withInp i).fetch = s.fetch := rfl
  rw [tapTick, tapTick, hpulse, hfetch]
  cases hfalling : s.falling with
  | false => exact State.idleTick_withInp
  | true =>
    refine tapAction_withInp fun hcapdr k hsel => h k ?_
    rw [State.fetch_eq, Instr.tapState_ofState] at hcapdr
    exact State.capture_eq_true_iff.mpr ⟨hfalling, hcapdr, hsel⟩

/-- R65: what the front end reads of the inputs is the three pins. -/
theorem State.finishTick_withInp (htck : i.tck = s.inp.tck) (htms : i.tms = s.inp.tms) (htdi : i.tdi = s.inp.tdi) :
    (s.withInp i).finishTick = s.finishTick := by
  unfold State.finishTick State.advanceInputs State.clockFrontEnd State.withInp State.falling State.rising
  cases s.pending <;> simp [htck, htms, htdi]

theorem State.systemResetTick_withInp : (s.withInp i).systemResetTick = s.systemResetTick := by
  unfold State.systemResetTick State.advanceInputs State.resetRegisters State.withInp
  cases s.pending <;> rfl

/-- R14, R116, R124: a step reads the three pins, the system reset, and the captured read bus. -/
theorem step_withInp (htck : i.tck = s.inp.tck) (htms : i.tms = s.inp.tms) (htdi : i.tdi = s.inp.tdi)
    (hreset : i.systemReset = s.inp.systemReset)
    (hbus : ∀ k, s.capture k = true → (s.withInp i).readBus k = s.readBus k) : step (s.withInp i) = step s := by
  cases hc : configCheck s.cfg with
  | some kind => rw [step_of_invalid hc, step_of_invalid (s := s.withInp i) hc]
  | none =>
    have hreset : (s.withInp i).inp.systemReset = s.inp.systemReset := hreset
    rw [step_of_valid hc, step_of_valid (s := s.withInp i) hc, hreset, State.systemResetTick_withInp,
      tapTick_withInp hbus, State.finishTick_withInp] <;> simpa

end

/-- Settles O38: the pins and the system reset are the same, and the captured bus by hypothesis. -/
theorem readBusMattersOnlyAtCapture : Obligations.ReadBusMattersOnlyAtCapture := fun _ _ =>
  ⟨State.outputs_withInp, fun hbus => step_withInp rfl rfl rfl rfl hbus⟩

/-- Settles O39: the pins, the system reset and the read buses are the same. -/
theorem trstHasNoEffect : Obligations.TrstHasNoEffect := fun _ _ =>
  ⟨step_withInp rfl rfl rfl rfl fun _ _ => rfl, State.outputs_withInp⟩

/-! ### The order of the configuration checks -/

/-- R130 in the list of errors, whatever W is. -/
theorem irResetTooWide_mem_configErrorsWith {W : Nat} {c : Config} :
    ConfigError.irResetTooWide ∈ configErrorsWith W c ↔ 2 ^ c.irWidth ≤ c.irReset := by
  simp [configErrorsWith]

/-- R131 in the list of errors, whatever W is. -/
theorem emptyOrZeroWidth_mem_configErrorsWith {W : Nat} {c : Config} :
    ConfigError.emptyOrZeroWidth ∈ configErrorsWith W c ↔
      c.irWidth = 0 ∨ c.ports = [] ∨ ∃ p ∈ c.ports, p.width = 0 := by
  simp [configErrorsWith]

/-- The kinds in the order of their rules. -/
def kindsInOrder : List ConfigError :=
  [.duplicateAddress] ++ [.widthExceedsDr] ++ [.irTooNarrow] ++ [.irResetTooWide] ++ [.emptyOrZeroWidth]

/-- R132: the errors found are listed in the order of their rules. -/
theorem configErrorsWith_sublist (W : Nat) (c : Config) : (configErrorsWith W c).Sublist kindsInOrder := by
  have hsub : ∀ (p : Prop) [Decidable p] (kind : ConfigError), (if p then [kind] else []).Sublist [kind] :=
    fun p _ kind => by split <;> simp
  exact ((((hsub _ _).append (hsub _ _)).append (hsub _ _)).append (hsub _ _)).append (hsub _ _)

theorem configErrors_pairwise (c : Config) : (configErrors c).Pairwise (fun a b => a.rule < b.rule) :=
  (by decide : kindsInOrder.Pairwise (fun a b => a.rule < b.rule)).sublist (configErrorsWith_sublist _ c)

/-- In a list whose rules increase, the head is the element of the least rule. -/
theorem head?_eq_some_iff_rule_le {l : List ConfigError} (h : l.Pairwise (fun a b => a.rule < b.rule))
    (kind : ConfigError) : l.head? = some kind ↔ kind ∈ l ∧ ∀ other ∈ l, kind.rule ≤ other.rule := by
  cases l with
  | nil => simp
  | cons first rest =>
    obtain ⟨hfirst, -⟩ := List.pairwise_cons.mp h
    rw [List.head?_cons, Option.some.injEq]
    constructor
    · rintro rfl
      exact ⟨List.mem_cons_self, List.forall_mem_cons.mpr ⟨le_rfl, fun other ho => (hfirst other ho).le⟩⟩
    · rintro ⟨hmem, hle⟩
      rcases List.mem_cons.mp hmem with rfl | hrest
      · rfl
      · exact absurd (hfirst kind hrest) (Nat.not_lt.mpr (hle first List.mem_cons_self))

/-- Settles O42: the two added kinds stand in the list exactly when their own checks fail, and the list is in the order
of the rules. -/
theorem addedConfigurationChecks : Obligations.AddedConfigurationChecks := fun c =>
  ⟨irResetTooWide_mem_configErrorsWith, emptyOrZeroWidth_mem_configErrorsWith, List.head?_eq_none_iff,
    head?_eq_some_iff_rule_le (configErrors_pairwise c)⟩

end Sys2Proof.Machine

namespace Sys2Proof.Machine

/-! ### The way to TEST-LOGIC-RESET -/

/-- R78: a run takes the state along the modes of its `falling` ticks. -/
theorem Ticks.tap_eq_foldl {s u : State} {trace : List State} (hrun : Ticks s trace u) (hun : Uninterrupted trace) :
    u.tap = (fallingModes trace).foldl nextState s.tap := by
  induction hrun with
  | done => rfl
  | @tick s t u trace hstep _ ih =>
    obtain ⟨hreset, hun⟩ := uninterrupted_cons.mp hun
    have htap : t.tap = if s.falling then nextState s.tap s.sampledMode else s.tap := by
      rw [step_next_of_noReset hstep hreset, State.finishTick_tap, tapTick_tap]
    rw [ih hun, htap]
    cases hfalling : s.falling <;> simp [fallingModes, hfalling]

/-- R102: the number of mode-1 cycles that take a state to TEST-LOGIC-RESET. -/
def modeOneCycles : TapState → Nat
  | .tlr => 0
  | .selir => 1
  | .seldr => 2
  | .rti | .updr | .upir => 3
  | .ex1dr | .ex2dr | .ex1ir | .ex2ir => 4
  | .capdr | .shdr | .padr | .capir | .shir | .pair => 5

theorem modeOneCycles_eq_zero_iff (S : TapState) : modeOneCycles S = 0 ↔ S = .tlr := by
  cases S <;> simp [modeOneCycles]

theorem modeOneCycles_le_five (S : TapState) : modeOneCycles S ≤ 5 := by
  cases S <;> simp [modeOneCycles]

/-- R102: every mode-1 cycle is one step on the way, and none leaves TEST-LOGIC-RESET. -/
theorem modeOneCycles_nextState (S : TapState) : modeOneCycles (nextState S true) = modeOneCycles S - 1 := by
  cases S <;> rfl

theorem modeOneCycles_iterate (S : TapState) (n : Nat) :
    modeOneCycles ((fun T => nextState T true)^[n] S) = modeOneCycles S - n := by
  induction n generalizing S with
  | zero => rfl
  | succ n ih => rw [Function.iterate_succ_apply, ih, modeOneCycles_nextState, Nat.sub_sub, Nat.add_comm]

/-- `n` mode-1 cycles reach TEST-LOGIC-RESET exactly when `n` is at least the state's number. -/
theorem iterate_mode_one_eq_tlr_iff (S : TapState) (n : Nat) :
    (fun T => nextState T true)^[n] S = .tlr ↔ modeOneCycles S ≤ n := by
  rw [← modeOneCycles_eq_zero_iff, modeOneCycles_iterate]
  omega

/-- Settles O50: each mode-1 cycle takes one off the state's number, and only TEST-LOGIC-RESET has the number 0. -/
theorem modeOneCyclesNeeded : Obligations.ModeOneCyclesNeeded := by
  intro S n
  rw [iterate_mode_one_eq_tlr_iff]
  cases S <;> rfl

/-- R102: five or more modes that are all 1 lead to TEST-LOGIC-RESET. -/
theorem foldl_nextState_of_mode_ones {modes : List Bool} (S : TapState) (hone : ∀ m ∈ modes, m = true)
    (hfive : 5 ≤ modes.length) : modes.foldl nextState S = .tlr := by
  have hiter : (List.replicate modes.length true).foldl nextState S = (fun T => nextState T true)^[modes.length] S := by
    rw [← List.foldl_const, ← List.map_const', List.foldl_map]
  rw [List.eq_replicate_of_mem hone, hiter]
  exact (iterate_mode_one_eq_tlr_iff S _).mpr ((modeOneCycles_le_five S).trans hfive)

/-- R33, R126: a state that steps has a valid configuration, and the step keeps it. -/
theorem cfg_of_step {s t : State} (hstep : step s = .next t) : s.cfg.wellFormed = true ∧ t.cfg = s.cfg := by
  obtain ⟨hc, ⟨-, rfl⟩ | ⟨-, -, rfl⟩ | ⟨-, -, rfl⟩⟩ := step_next_cases hstep <;> simp [Config.wellFormed, hc]

/-- R33: a run keeps the configuration. -/
theorem Ticks.cfg_eq {s u : State} {trace : List State} (hrun : Ticks s trace u) : u.cfg = s.cfg := by
  induction hrun with
  | done => rfl
  | tick hstep _ ih => exact ih.trans (cfg_of_step hstep).2

/-- Settles O49: the modes of the run lead to TEST-LOGIC-RESET, whose next tick reloads IR. -/
theorem fiveModeOnesReachReset : Obligations.FiveModeOnesReachReset := by
  intro s u trace hrun hun hone hfive
  have htlr : u.tap = .tlr := (hrun.tap_eq_foldl hun).trans (foldl_nextState_of_mode_ones _ hone hfive)
  have hcfg : u.cfg.wellFormed = true := by
    rw [hrun.cfg_eq]
    cases hrun with
    | done => simp [fallingModes] at hfive
    | tick hstep _ => exact (cfg_of_step hstep).1
  refine ⟨htlr, fun hreset => ?_⟩
  obtain ⟨-, v, hstep, -, hir, -⟩ := testLogicResetReloadsIr u hcfg hreset htlr
  exact ⟨v, hstep, by rw [hir, (cfg_of_step hstep).2]⟩

/-- R103: modes that lead from TEST-LOGIC-RESET to each state. -/
def modesTo : TapState → List Bool
  | .tlr => []
  | .rti => [false]
  | .seldr => [false, true]
  | .capdr => [false, true, false]
  | .shdr => [false, true, false, false]
  | .ex1dr => [false, true, false, true]
  | .padr => [false, true, false, true, false]
  | .ex2dr => [false, true, false, true, false, true]
  | .updr => [false, true, false, true, true]
  | .selir => [false, true, true]
  | .capir => [false, true, true, false]
  | .shir => [false, true, true, false, false]
  | .ex1ir => [false, true, true, false, true]
  | .pair => [false, true, true, false, true, false]
  | .ex2ir => [false, true, true, false, true, false, true]
  | .upir => [false, true, true, false, true, true]

/-- Settles O51: the modes listed lead to their state. -/
theorem everyStateIsReachable : Obligations.EveryStateIsReachable := by
  intro S
  exact ⟨modesTo S, by cases S <;> rfl⟩

/-- R78 at protocol level: a program takes the state along the modes of its cycles. -/
theorem runCycles_tap {cs : List Cycle} {s t : State} (h : runCycles cs s = .next t) :
    t.tap = (cs.map Cycle.mode).foldl nextState s.tap := by
  induction cs generalizing s with
  | nil => cases h; rfl
  | cons c cs ih =>
    rw [runCycles_cons] at h
    simpa using ih h

/-- Settles O60: five mode-1 cycles, and one mode-0 cycle from each of the four states. -/
theorem tlr5AndIdleEndWhereTheyShould : Obligations.Tlr5AndIdleEndWhereTheyShould := by
  refine ⟨fun s => ?tlr5, fun s hs => ?idle⟩
  case tlr5 =>
    obtain ⟨t, hrun⟩ := runCycles_next tlr5 s
    exact ⟨t, hrun, (runCycles_tap hrun).trans (foldl_nextState_of_mode_ones _ (by decide) (by decide))⟩
  case idle =>
    have hrow : ∀ S ∈ [TapState.tlr, .updr, .upir, .rti], nextState S false = .rti := by decide
    obtain ⟨t, hrun⟩ := runCycles_next idle s
    exact ⟨t, hrun, (runCycles_tap hrun).trans (hrow _ hs)⟩

/-! ### The way of a DR scan -/

/-- What every tick without a system reset keeps, as long as the tick satisfies `Q`, holds at the end of every run of
such ticks. -/
theorem Ticks.keeps_of_forall {P Q : State → Prop}
    (hP : ∀ s t, P s → Q s → s.noSystemReset → step s = .next t → P t) {s u : State} {trace : List State}
    (hrun : Ticks s trace u) (hun : Uninterrupted trace) (hQ : ∀ x ∈ trace, Q x) (hs : P s) : P u := by
  induction hrun with
  | done => exact hs
  | tick hstep _ ih =>
    obtain ⟨hreset, hun⟩ := uninterrupted_cons.mp hun
    obtain ⟨hfirst, hQ⟩ := List.forall_mem_cons.mp hQ
    exact ih hun hQ (hP _ _ hs hfirst hreset hstep)

/-- R51: the states of a DR scan after its capture. -/
def afterCapture : List TapState := [.shdr, .ex1dr, .padr, .ex2dr, .updr]

/-- R51, R79: from CAPTURE-DR and the states after it a scan moves on among these, until UPDATE-DR. -/
theorem nextState_mem_afterCapture {S : TapState} (hS : S ∈ TapState.capdr :: afterCapture) (hupdr : S ≠ .updr)
    (m : Bool) : nextState S m ∈ afterCapture := by
  have hrows : ∀ S ∈ TapState.capdr :: afterCapture, S ≠ .updr → ∀ m, nextState S m ∈ afterCapture := by decide
  exact hrows S hS hupdr m

/-- A tick of a scan before UPDATE-DR stays in the scan, and does not go back to the capture. -/
theorem step_mem_afterCapture {s t : State} (hs : s.tap ∈ TapState.capdr :: afterCapture) (hupdr : s.tap ≠ .updr)
    (hreset : s.noSystemReset) (hstep : step s = .next t) : t.tap = s.tap ∨ t.tap ∈ afterCapture := by
  rw [step_next_of_noReset hstep hreset, State.finishTick_tap, tapTick_tap]
  split
  · exact .inr (nextState_mem_afterCapture hs hupdr _)
  · exact .inl rfl

/-- Settles O52: without a tick of UPDATE-DR the run stays in the states after the capture. -/
theorem noCaptureAfterShiftWithoutUpdate : Obligations.NoCaptureAfterShiftWithoutUpdate := by
  intro s u trace hrun hun hs hu
  by_contra hnone
  push Not at hnone
  have hstay : u.tap ∈ afterCapture := by
    refine hrun.keeps_of_forall (P := fun x => x.tap ∈ afterCapture) (Q := fun x => x.tap ≠ .updr) ?_ hun
      (fun x hx => (hnone x hx).1) (by rw [hs]; decide)
    intro x y hx hupdr hreset hstep
    obtain hsame | hmem := step_mem_afterCapture (List.mem_cons_of_mem _ hx) hupdr hreset hstep
    · rwa [hsame]
    · exact hmem
  rw [hu] at hstay
  exact absurd hstay (by decide)

/-- R25: a tick of a DR scan keeps IR. -/
theorem step_ir_of_drScan {s t : State} (hs : s.tap ∈ TapState.capdr :: afterCapture) (hreset : s.noSystemReset)
    (hstep : step s = .next t) : t.ir = s.ir := by
  have hkeep : ∀ S ∈ TapState.capdr :: afterCapture, S ≠ .tlr ∧ S ≠ .shir := by decide
  obtain ⟨htlr, hshir⟩ := hkeep _ hs
  simp [step_next_of_noReset hstep hreset, tapTick_ir, htlr, hshir]

/-- Settles O53: every tick from the capture to the update is one of the scan, which keeps IR and the configuration. -/
theorem oneScanAddressesOnePort : Obligations.OneScanAddressesOnePort := by
  intro s t u trace hs hreset hstep hrun hun hscan hu
  have hrun : Ticks s (s :: trace) u := .tick hstep hrun
  have hkeep : u.tap ∈ TapState.capdr :: afterCapture ∧ u.ir = s.ir := by
    refine hrun.keeps_of_forall (P := fun x => x.tap ∈ TapState.capdr :: afterCapture ∧ x.ir = s.ir)
      (Q := fun x => x.tap ≠ .updr) ?_ (uninterrupted_cons.mpr ⟨hreset, hun⟩)
      (List.forall_mem_cons.mpr ⟨by simp [hs], fun x hx => (hscan x hx).2⟩) ⟨by simp [hs], rfl⟩
    rintro x y ⟨hx, hir⟩ hupdr hreset hstep
    refine ⟨?_, (step_ir_of_drScan hx hreset hstep).trans hir⟩
    obtain hsame | hmem := step_mem_afterCapture hx hupdr hreset hstep
    · rwa [hsame]
    · exact List.mem_cons_of_mem _ hmem
  exact ⟨hkeep.2, by rw [State.sel, State.sel, hkeep.2, hrun.cfg_eq]⟩

end Sys2Proof.Machine

namespace Sys2Proof

/-- R58: the shift of R83 for each bit of a list in turn. -/
def Word.shiftIn (x : Word) (n : Nat) (ds : List Bool) : Word := ds.foldl (fun y d => y.shiftWithin n d) x

/-- The bits that the shift cycles of a scan send, in order (R64). -/
def Word.toBits (x : Word) : List Bool := (List.range x.width).map x.bit

namespace Word

@[simp] theorem length_toBits (x : Word) : x.toBits.length = x.width := by simp [toBits]

@[simp] theorem shiftIn_nil (x : Word) (n : Nat) : x.shiftIn n [] = x := rfl

@[simp] theorem shiftIn_cons (x : Word) (n : Nat) (d : Bool) (ds : List Bool) :
    x.shiftIn n (d :: ds) = (x.shiftWithin n d).shiftIn n ds := rfl

@[simp] theorem shiftIn_append (x : Word) (n : Nat) (ds es : List Bool) :
    x.shiftIn n (ds ++ es) = (x.shiftIn n ds).shiftIn n es := List.foldl_append

@[simp] theorem width_shiftIn (x : Word) (n : Nat) (ds : List Bool) : (x.shiftIn n ds).width = x.width := by
  induction ds generalizing x with
  | nil => rfl
  | cons d ds ih => rw [shiftIn_cons, ih, width_shiftWithin]

/-- R58: within the window, the old bits and then the sent ones, seen as many places further as bits were sent. -/
theorem bit_shiftIn_below {x : Word} {n i : Nat} (ds : List Bool) (hn : n ≤ x.width) (hi : i < n) :
    (x.shiftIn n ds).bit i =
      if i + ds.length < n then x.bit (i + ds.length) else ds.getD (i + ds.length - n) false := by
  induction ds generalizing x with
  | nil => simp [hi]
  | cons d ds ih =>
    rw [shiftIn_cons, ih (by simpa using hn), List.length_cons, ← Nat.add_assoc]
    rcases Nat.lt_trichotomy (i + ds.length + 1) n with hlt | heq | hgt
    · rw [if_pos (by omega), if_pos hlt, bit_shiftWithin_below d hn hlt]
    · rw [if_pos (by omega), if_neg (by omega), show i + ds.length = n - 1 by omega,
        bit_shiftWithin_top d hn (by omega), show n - 1 + 1 - n = 0 by omega, List.getD_cons_zero]
    · rw [if_neg (by omega), if_neg (by omega), show i + ds.length + 1 - n = i + ds.length - n + 1 by omega,
        List.getD_cons_succ]

/-- R58, R83: above the window nothing moves. -/
theorem bit_shiftIn_above {x : Word} {n i : Nat} (ds : List Bool) (hi : n ≤ i) :
    (x.shiftIn n ds).bit i = x.bit i := by
  induction ds generalizing x with
  | nil => rfl
  | cons d ds ih => rw [shiftIn_cons, ih, bit_shiftWithin_above d hi]

/-- R64: a scan of the window's width replaces the window. -/
theorem bit_shiftIn_toBits {x v : Word} {i : Nat} (hv : v.width ≤ x.width) :
    (x.shiftIn v.width v.toBits).bit i = if i < v.width then v.bit i else x.bit i := by
  split
  case isTrue hi =>
    rw [bit_shiftIn_below _ hv hi, length_toBits, if_neg (by omega), Nat.add_sub_cancel]
    simp [toBits, hi]
  case isFalse hi => exact bit_shiftIn_above _ (by omega)

/-- A scan of the whole width replaces the word. -/
theorem shiftIn_toBits_of_width_eq {x v : Word} (hv : v.width = x.width) : x.shiftIn v.width v.toBits = v := by
  refine ext_bits (by simp [hv]) fun i hi => ?_
  rw [bit_shiftIn_toBits hv.le, if_pos (by simpa [hv] using hi)]

/-- A window that is replaced in a zero-extended word leaves the new value zero-extended. -/
theorem shiftIn_toBits_resize {x v : Word} {n : Nat} (hx : x.width = v.width) (hv : v.width ≤ n) :
    (x.resize n).shiftIn v.width v.toBits = v.resize n := by
  refine ext_bits (by simp) fun i hi => ?_
  rw [bit_shiftIn_toBits (by simpa using hv), bit_resize, bit_resize]
  split
  · simp [show i < n by omega]
  · rw [bit_of_width_le (x := x) (by omega), bit_of_width_le (x := v) (by omega)]

/-- The low bits of a zero-extended word are the word. -/
theorem resize_resize_width {v : Word} {n : Nat} (hv : v.width ≤ n) : (v.resize n).resize v.width = v := by
  refine ext_bits (by simp) fun i hi => ?_
  rw [width_resize] at hi
  simp [bit_resize, hi, show i < n by omega]

/-- R83: an empty window does not shift. -/
theorem shiftWithin_zero (x : Word) (d : Bool) : x.shiftWithin 0 d = x :=
  ext_bits rfl fun _ _ => bit_shiftWithin_above d (Nat.zero_le _)

theorem shiftIn_zero (x : Word) (ds : List Bool) : x.shiftIn 0 ds = x := by
  induction ds generalizing x with
  | nil => rfl
  | cons d ds ih => rw [shiftIn_cons, ih, shiftWithin_zero]

end Word

namespace Machine

/-! ### The shift cycles of either path -/

/-- What the two shift states have in common: `st x` is the machine in the shift state `S` with `x` in the register that
shifts, of width `W`, within a window of `n` bits. -/
structure ShiftState (S : TapState) (st : Word → State) (W n : Nat) : Prop where
  tap : ∀ x, (st x).tap = S
  tdo : ∀ x, (st x).tdo = x.bit 0
  stay : nextState S false = S
  shift : ∀ x m d, x.width = W →
    tapAction (Instr.ofState S m d) (st x) = (st (x.shiftWithin n d)).transition S m

/-- R84, R96: SHIFT-IR shifts IR over its whole width. -/
theorem shiftState_shir {s : State} (h : s.tap = .shir) :
    ShiftState .shir (fun x => { s with ir := x }) s.ir.width s.ir.width where
  tap _ := h
  tdo _ := State.tdo_of_shir h
  stay := rfl
  shift x m d hx := by rw [← hx]; rfl

/-- The bits of DR that shift: those of the addressed port's width, and none under an unaddressed code (R83, R89). -/
def State.drWindow (s : State) : Nat := s.sel.elim 0 (portWidth s.cfg)

theorem State.drWindow_of_some {s : State} {k : Nat} (h : s.sel = some k) : s.drWindow = portWidth s.cfg k := by
  simp [State.drWindow, h]

theorem State.drWindow_of_none {s : State} (h : s.sel = none) : s.drWindow = 0 := by simp [State.drWindow, h]

/-- R89: the shift of DR within its window, which may be empty. -/
theorem State.shiftDr_eq (s : State) (d : Bool) :
    s.shiftDr d = { s with dr := s.dr.shiftWithin s.drWindow d } := by
  cases hsel : s.sel with
  | none => rw [State.shiftDr_of_none d hsel, State.drWindow_of_none hsel, Word.shiftWithin_zero]
  | some k => rw [State.shiftDr_of_some d hsel, State.drWindow_of_some hsel]

/-- R89: SHIFT-DR shifts DR within its window. -/
theorem shiftState_shdr {s : State} (W : Nat) (h : s.tap = .shdr) :
    ShiftState .shdr (fun x => { s with dr := x }) W s.drWindow where
  tap _ := h
  tdo _ := State.tdo_of_shdr h
  stay := rfl
  shift x m d _ := congrArg (State.transition · .shdr m) (State.shiftDr_eq { s with dr := x } d)

/-- A transition to the state that the machine is in changes nothing. -/
theorem State.transition_of_eq {s : State} {S : TapState} {m : Bool} (h : nextState S m = s.tap) :
    s.transition S m = s := by
  rw [State.transition, h]

section
variable {S : TapState} {st : Word → State} {W n : Nat} (hshift : ShiftState S st W n)
include hshift

theorem ShiftState.shift_stay {x : Word} (d : Bool) (hx : x.width = W) :
    tapAction (Instr.ofState S false d) (st x) = st (x.shiftWithin n d) := by
  rw [hshift.shift x false d hx, State.transition_of_eq (hshift.stay.trans (hshift.tap _).symm)]

/-- R58: shift cycles with m = 0 shift their bits in. -/
theorem ShiftState.runCycles_stay (ds : List Bool) {x : Word} (hx : x.width = W) :
    runCycles (ds.map fun d => ⟨false, d⟩) (st x) = .next (st (x.shiftIn n ds)) := by
  induction ds generalizing x with
  | nil => rfl
  | cons d ds ih =>
    rw [List.map_cons, runCycles_cons, hshift.tap, hshift.shift_stay d hx, ih (by simpa using hx), Word.shiftIn_cons]

/-- R63: TDO shows the bits of the window that the shift moves out, bit 0 first. -/
theorem ShiftState.cyclesTdo_stay (ds : List Bool) {x : Word} (hx : x.width = W) (hn : n ≤ W) (hds : ds.length ≤ n) :
    cyclesTdo (ds.map fun d => ⟨false, d⟩) (st x) = (List.range ds.length).map x.bit := by
  induction ds generalizing x with
  | nil => rfl
  | cons d ds ih =>
    rw [List.length_cons] at hds
    have hbits : (List.range ds.length).map (x.shiftWithin n d).bit = (List.range ds.length).map (x.bit ∘ Nat.succ) :=
      List.map_congr_left fun i hi => Word.bit_shiftWithin_below d (hx ▸ hn) (by rw [List.mem_range] at hi; omega)
    rw [List.map_cons, cyclesTdo_cons, hshift.tap, hshift.tdo, hshift.shift_stay d hx,
      ih (by simpa using hx) (by omega), hbits, List.length_cons, List.range_succ_eq_map, List.map_cons, List.map_map]

end

/-- R64: the shift cycles of a scan send its bits with m = 0, and the last one with m = 1. -/
theorem shiftCycles_eq {v : Word} (hv : 1 ≤ v.width) :
    ∃ ds d, v.toBits = ds ++ [d] ∧ shiftCycles v = ds.map (fun d => ⟨false, d⟩) ++ [⟨true, d⟩] := by
  obtain ⟨w, hw⟩ := Nat.exists_eq_add_of_le' hv
  refine ⟨(List.range w).map v.bit, v.bit w, by simp [Word.toBits, hw, List.range_succ], ?_⟩
  simp only [shiftCycles, hw, List.range_succ, List.map_append, List.map_map, List.map_cons, List.map_nil,
    decide_true]
  congr 1
  refine List.map_congr_left fun i hi => ?_
  rw [List.mem_range] at hi
  simp [hi.ne]

@[simp] theorem length_shiftCycles (v : Word) : (shiftCycles v).length = v.width := by simp [shiftCycles]

theorem cyclesTdo_append {a b : List Cycle} {s t : State} (h : runCycles a s = .next t) :
    cyclesTdo (a ++ b) s = cyclesTdo a s ++ cyclesTdo b t := by
  induction a generalizing s with
  | nil => cases h; rfl
  | cons c a ih =>
    rw [runCycles_cons] at h
    rw [List.cons_append, cyclesTdo_cons, cyclesTdo_cons, ih h, List.cons_append]

/-- What a part of a program reports is what it reports by itself from the state that it starts in. -/
theorem take_drop_cyclesTdo {a b c : List Cycle} {s t : State} (h : runCycles a s = .next t) :
    ((cyclesTdo (a ++ b ++ c) s).drop a.length).take b.length = cyclesTdo b t := by
  obtain ⟨u, hb⟩ := runCycles_next b t
  rw [List.append_assoc, cyclesTdo_append h, cyclesTdo_append hb, List.drop_left' (cyclesTdo_length a s),
    List.take_left' (cyclesTdo_length b t)]

section
variable {S : TapState} {st : Word → State} {W n : Nat} (hshift : ShiftState S st W n)
include hshift

/-- R64: the shift cycles of a scan shift its bits in, and the last one leaves the state. -/
theorem ShiftState.runCycles_shiftCycles {x v : Word} (hx : x.width = W) (hv : 1 ≤ v.width) :
    runCycles (shiftCycles v) (st x) = .next ((st (x.shiftIn n v.toBits)).transition S true) := by
  obtain ⟨ds, d, hbits, hcycles⟩ := shiftCycles_eq hv
  rw [hcycles, runCycles_append (hshift.runCycles_stay ds hx), runCycles_cons, hshift.tap,
    hshift.shift _ true d (by simpa using hx), runCycles_nil, hbits, Word.shiftIn_append]
  rfl

/-- R63, R64: they show the window on TDO, bit 0 first. -/
theorem ShiftState.cyclesTdo_shiftCycles {x v : Word} (hx : x.width = W) (hn : n ≤ W) (hv : 1 ≤ v.width)
    (hvn : v.width ≤ n) : cyclesTdo (shiftCycles v) (st x) = (List.range v.width).map x.bit := by
  obtain ⟨ds, d, hbits, hcycles⟩ := shiftCycles_eq hv
  have hlen : v.width = ds.length + 1 := by simpa using congrArg List.length hbits
  have hlast : (x.shiftIn n ds).bit 0 = x.bit ds.length := by
    rw [Word.bit_shiftIn_below ds (hx ▸ hn) (by omega), if_pos (by omega), Nat.zero_add]
  rw [hcycles, cyclesTdo_append (hshift.runCycles_stay ds hx), hshift.cyclesTdo_stay ds hx hn (by omega),
    cyclesTdo_cons, hshift.tdo, hlast, hlen, List.range_succ, List.map_append]
  rfl

end

/-- Settles O54: in either shift state the cycles shift their bits in, within IR or the addressed window of DR. -/
theorem shiftCyclesAssembleAValue : Obligations.ShiftCyclesAssembleAValue := by
  intro s ds hwf
  refine ⟨fun htap => ?ir, fun k htap hsel => ?dr⟩
  case ir =>
    exact ⟨_, (shiftState_shir htap).runCycles_stay ds (x := s.ir) rfl, Word.width_shiftIn ..,
      fun _ hi => Word.bit_shiftIn_below ds le_rfl hi⟩
  case dr =>
    obtain ⟨-, -, hdr, -⟩ := State.wf_iff.mp hwf
    have hn : portWidth s.cfg k ≤ s.dr.width := hdr ▸ State.portWidth_le_drWidth hsel
    rw [← State.drWindow_of_some hsel] at hn ⊢
    exact ⟨_, (shiftState_shdr s.dr.width htap).runCycles_stay ds (x := s.dr) rfl, Word.width_shiftIn ..,
      fun _ hi => Word.bit_shiftIn_below ds hn hi, fun _ hi => Word.bit_shiftIn_above ds hi⟩

/-! ### The scans -/

theorem runCycles_trans {a b : List Cycle} {s t u : State} (ha : runCycles a s = .next t)
    (hb : runCycles b t = .next u) : runCycles (a ++ b) s = .next u :=
  (runCycles_append ha).trans hb

section
variable {s : State} {v : Word} {k : Nat}

/-- The cycles of IRSCAN before its shift cycles: SELECT-DR-SCAN, SELECT-IR-SCAN, CAPTURE-IR, SHIFT-IR. -/
theorem runCycles_irScan_prefix (h : s.tap = .rti) :
    runCycles [⟨true, false⟩, ⟨true, false⟩, ⟨false, false⟩, ⟨false, false⟩] s = .next { s with tap := .shir } := by
  simp [runCycles_cons, runCycles_nil, h, Instr.ofState, tapAction, State.transition, nextState]

/-- The cycles of IRSCAN after them: UPDATE-IR, RUN-TEST-IDLE. -/
theorem runCycles_irScan_suffix (h : s.tap = .ex1ir) :
    runCycles [⟨true, false⟩, ⟨false, false⟩] s = .next { s with tap := .rti } := by
  simp [runCycles_cons, runCycles_nil, h, Instr.ofState, tapAction, State.transition, nextState]

/-- IRSCAN shifts its bits into IR, and does nothing else. -/
theorem runCycles_irScan (htap : s.tap = .rti) (hpos : 1 ≤ v.width) :
    runCycles (irScan v) s = .next { s with ir := s.ir.shiftIn s.ir.width v.toBits, tap := .rti } :=
  have hshift := (shiftState_shir (s := { s with tap := .shir }) rfl).runCycles_shiftCycles (x := s.ir) rfl hpos
  runCycles_trans (runCycles_trans (runCycles_irScan_prefix htap) hshift) (runCycles_irScan_suffix rfl)

/-- Settles O55: shifting in as many bits as IR has replaces IR. -/
theorem irScanLoadsTheCode : Obligations.IrScanLoadsTheCode := by
  intro s v htap hv hpos
  refine ⟨?run, ?tdo⟩
  case run => rw [runCycles_irScan htap hpos, ← hv, Word.shiftIn_toBits_of_width_eq hv, ← htap]
  case tdo =>
    have hshift := shiftState_shir (s := { s with tap := .shir }) rfl
    rw [irScan, ← hshift.cyclesTdo_shiftCycles (x := s.ir) rfl le_rfl hpos hv.le, ← length_shiftCycles v]
    exact take_drop_cyclesTdo (runCycles_irScan_prefix htap)

/-- R88: the capture writes DR only. -/
theorem State.captureDr_eq (s : State) : s.captureDr = { s with dr := s.captureDr.dr } := by
  unfold State.captureDr; split <;> rfl

/-- R93: the update writes the write registers only. -/
theorem State.updateWr_eq (s : State) : s.updateWr = { s with wr := s.updateWr.wr } := by
  unfold State.updateWr; split <;> rfl

/-- The cycles of DRSCAN before its shift cycles: SELECT-DR-SCAN, CAPTURE-DR, and SHIFT-DR with the capture. -/
theorem runCycles_drScan_prefix (h : s.tap = .rti) :
    runCycles [⟨true, false⟩, ⟨false, false⟩, ⟨false, false⟩] s =
      .next { s with dr := s.captureDr.dr, tap := .shdr } := by
  have hdr : (State.captureDr { s with tap := .capdr }).dr = s.captureDr.dr := by
    rw [State.captureDr_dr, State.captureDr_dr]; rfl
  rw [runCycles_cons, runCycles_cons, runCycles_cons, runCycles_nil, h]
  change Host.Outcome.next { State.captureDr { s with tap := .capdr } with tap := .shdr } = _
  rw [State.captureDr_eq, hdr]

/-- The cycles of DRSCAN after them: UPDATE-DR, and RUN-TEST-IDLE with the update. -/
theorem runCycles_drScan_suffix (h : s.tap = .ex1dr) :
    runCycles [⟨true, false⟩, ⟨false, false⟩] s = .next { s with wr := s.updateWr.wr, tap := .rti } := by
  have hwr : (State.updateWr { s with tap := .updr }).wr = s.updateWr.wr := by
    rw [State.updateWr_wr, State.updateWr_wr]; rfl
  rw [runCycles_cons, runCycles_cons, runCycles_nil, h]
  change Host.Outcome.next { State.updateWr { s with tap := .updr } with tap := .rti } = _
  rw [State.updateWr_eq, hwr]

/-- DR after the shift cycles of DRSCAN v. -/
def State.scannedDr (s : State) (v : Word) : Word := s.captureDr.dr.shiftIn s.drWindow v.toBits

/-- DRSCAN captures, shifts its bits into the window of DR, and updates from that. -/
theorem runCycles_drScan (htap : s.tap = .rti) (hpos : 1 ≤ v.width) :
    runCycles (drScan v) s =
      .next { s with dr := s.scannedDr v, wr := (State.updateWr { s with dr := s.scannedDr v }).wr, tap := .rti } := by
  have hshift := (shiftState_shdr (s := { s with tap := .shdr }) s.captureDr.dr.width rfl).runCycles_shiftCycles
    (x := s.captureDr.dr) rfl hpos
  have hwr : (State.updateWr { s with dr := s.scannedDr v, tap := .ex1dr }).wr =
      (State.updateWr { s with dr := s.scannedDr v }).wr := by
    rw [State.updateWr_wr, State.updateWr_wr]; rfl
  rw [drScan, ← hwr]
  exact runCycles_trans (runCycles_trans (runCycles_drScan_prefix htap) hshift) (runCycles_drScan_suffix rfl)

/-- R88, R64: with a port addressed, the shift cycles leave the sent value zero-extended in DR. -/
theorem State.scannedDr_of_some (hsel : s.sel = some k) (hv : v.width = portWidth s.cfg k) :
    s.scannedDr v = v.resize s.cfg.drWidth := by
  have hle : v.width ≤ s.cfg.drWidth := hv ▸ State.portWidth_le_drWidth hsel
  rw [State.scannedDr, State.captureDr_of_some hsel, State.drWindow_of_some hsel, ← hv]
  exact Word.shiftIn_toBits_resize (x := s.readBus k) hv.symm hle

/-- R89: with none, DR keeps what it holds. -/
theorem State.scannedDr_of_none (hsel : s.sel = none) : s.scannedDr v = s.dr := by
  rw [State.scannedDr, State.captureDr_of_none hsel, State.drWindow_of_none hsel, Word.shiftIn_zero]

/-- R63: with a port addressed, the shift cycles of DRSCAN show the read bus on TDO. -/
theorem take_drop_cyclesTdo_drScan (htap : s.tap = .rti) (hsel : s.sel = some k) (hv : v.width = portWidth s.cfg k)
    (hpos : 1 ≤ v.width) :
    ((cyclesTdo (drScan v) s).drop 3).take v.width = (List.range v.width).map (s.readBus k).bit := by
  have hle : v.width ≤ s.cfg.drWidth := hv ▸ State.portWidth_le_drWidth hsel
  have hbus : (List.range v.width).map s.captureDr.dr.bit = (List.range v.width).map (s.readBus k).bit := by
    rw [State.captureDr_of_some hsel]
    refine List.map_congr_left fun i hi => ?_
    rw [List.mem_range] at hi
    rw [Word.bit_resize, decide_eq_true (by omega), Bool.true_and]
  have hwidth : s.captureDr.dr.width = s.cfg.drWidth := by rw [State.captureDr_of_some hsel, Word.width_resize]
  have hshift := shiftState_shdr (s := { s with tap := .shdr }) s.cfg.drWidth rfl
  have hwindow : State.drWindow { s with tap := .shdr } = v.width :=
    (State.drWindow_of_some (by exact hsel)).trans hv.symm
  rw [drScan, ← hbus, ← hshift.cyclesTdo_shiftCycles hwidth (hwindow ▸ hle) hpos hwindow.ge, ← length_shiftCycles v]
  exact take_drop_cyclesTdo (runCycles_drScan_prefix htap)

end

/-- Settles O56: the update copies the window, which holds the sent value, to the addressed write register. -/
theorem drScanReadsAndWritesThePort : Obligations.DrScanReadsAndWritesThePort := by
  intro s v k hwf htap hsel hv
  obtain ⟨hcfg, -, -, -⟩ := State.wf_iff.mp hwf
  obtain ⟨hpos, hle⟩ := State.sel_width hcfg hsel
  rw [← hv] at hpos hle
  refine ⟨?run, take_drop_cyclesTdo_drScan htap hsel hv hpos⟩
  have hwr : (State.updateWr { s with dr := v.resize s.cfg.drWidth }).wr = s.wr.set k v := by
    have hsel : State.sel { s with dr := v.resize s.cfg.drWidth } = some k := hsel
    rw [State.updateWr_of_some hsel, ← hv, Word.resize_resize_width hle]
  rw [runCycles_drScan htap hpos, State.scannedDr_of_some hsel hv, hwr, ← htap]

/-- Settles O57: an unaddressed code has no capture, an empty window, and no update. -/
theorem unaddressedScanIsANoOp : Obligations.UnaddressedScanIsANoOp := by
  intro s v htap hsel hpos
  rw [runCycles_drScan htap hpos, State.scannedDr_of_none hsel, State.updateWr_of_none hsel, ← htap]

end Machine

end Sys2Proof

namespace Sys2Proof.Machine

/-! ### The registers of a tick and of the protocol -/

/-- The ticks' state `x` stands at the protocol's state `t`; in TEST-LOGIC-RESET, where every tick reloads IR (R85), IR
may differ. -/
structure Tracks (x t : State) : Prop where
  cfg : x.cfg = t.cfg
  tap : x.tap = t.tap
  dr : x.dr = t.dr
  wr : x.wr = t.wr
  ir : t.tap ≠ .tlr → x.ir = t.ir

section
variable {x t : State}

/-- TDO is that of the protocol's state: it shows IR in SHIFT-IR only. -/
theorem Tracks.tdo (h : Tracks x t) : x.tdo = t.tdo := State.tdo_congr h.tap h.dr h.ir

/-- R106: the same port is addressed, outside TEST-LOGIC-RESET. -/
theorem Tracks.sel (h : Tracks x t) (htlr : t.tap ≠ .tlr) : x.sel = t.sel := by
  rw [State.sel, State.sel, h.cfg, h.ir htlr]

/-- The front end and the inputs have no part in what is tracked. -/
theorem Tracks.finishTick (h : Tracks x t) : Tracks x.finishTick t := by
  obtain ⟨hcfg, htap, hdr, hwr, hir⟩ := h
  constructor <;> simpa

/-- R81: a tick without `falling` is none for the protocol. -/
theorem Tracks.of_not_falling (h : Tracks x t) (hfalling : x.falling = false) : Tracks (tapTick x).finishTick t := by
  obtain ⟨htap, hdr, hwr, hir⟩ := tapTick_of_not_falling hfalling
  exact Tracks.finishTick ⟨(tapTick_cfg x).trans h.cfg, htap.trans h.tap, hdr.trans h.dr, hwr.trans h.wr,
    fun htlr => by rw [hir, if_neg (h.tap ▸ htlr), h.ir htlr]⟩

/-- R80: one action on both sides, which reads the same registers, and in a capture the same read bus. -/
theorem Tracks.tapAction {i : Instr} (h : Tracks x t) (hi : i.tapState = t.tap)
    (hbus : ∀ k, t.sel = some k → x.readBus k = t.readBus k) : Tracks (tapAction i x) (tapAction i t) := by
  have hcapture (htlr : t.tap ≠ .tlr) : x.captureDr.dr = t.captureDr.dr := by
    rw [State.captureDr_dr, State.captureDr_dr, h.sel htlr, h.dr, h.cfg]
    cases hsel : t.sel with
    | none => rfl
    | some k => simp [hbus k hsel]
  have hshift (htlr : t.tap ≠ .tlr) (d : Bool) : (x.shiftDr d).dr = (t.shiftDr d).dr := by
    rw [State.shiftDr_dr, State.shiftDr_dr, h.sel htlr, h.dr, h.cfg]
  have hupdate (htlr : t.tap ≠ .tlr) : x.updateWr.wr = t.updateWr.wr := by
    rw [State.updateWr_wr, State.updateWr_wr, h.sel htlr, h.dr, h.wr, h.cfg]
  refine ⟨by simp [h.cfg], by simp, ?dr, ?wr, fun _ => ?ir⟩
  case dr =>
    rw [tapAction_dr, tapAction_dr]
    cases i
    case capdr => exact hcapture (hi ▸ nofun)
    case shdr m d => exact hshift (hi ▸ nofun) d
    all_goals exact h.dr
  case wr =>
    rw [tapAction_wr, tapAction_wr]
    cases i
    case updr => exact hupdate (hi ▸ nofun)
    all_goals exact h.wr
  case ir =>
    rw [tapAction_ir, tapAction_ir]
    cases i
    case tlr => rw [h.cfg]
    case shir => rw [h.ir (hi ▸ nofun)]
    all_goals exact h.ir (hi ▸ nofun)

/-- R56, R80: the action of a `falling` tick is the protocol's cycle on the latched mode and data. -/
theorem Tracks.of_falling (h : Tracks x t) (hfalling : x.falling = true)
    (hbus : ∀ k, t.sel = some k → x.readBus k = t.readBus k) :
    Tracks (tapTick x).finishTick (Machine.tapAction (Instr.ofState t.tap x.sampledMode x.sampledData) t) := by
  rw [tapTick, if_pos hfalling, State.fetch_eq, h.tap]
  exact (h.tapAction (Instr.tapState_ofState ..) hbus).finishTick

end

/-- The run of ticks from `x` to `u`, and TDO in each of them. -/
def TicksReport (x : State) (tdos : List Bool) (u : State) : Prop :=
  ∃ trace, Ticks x trace u ∧ trace.map State.tdo = tdos

theorem TicksReport.refl (x : State) : TicksReport x [] x := ⟨[], .done x, rfl⟩

theorem TicksReport.of_step {x u : State} (h : step x = .next u) : TicksReport x [x.tdo] u :=
  ⟨[x], .tick h (.done u), rfl⟩

theorem TicksReport.trans {x y u : State} {as bs : List Bool} (h : TicksReport x as y) (h' : TicksReport y bs u) :
    TicksReport x (as ++ bs) u := by
  obtain ⟨trace, hrun, rfl⟩ := h
  obtain ⟨trace', hrun', rfl⟩ := h'
  exact ⟨trace ++ trace', hrun.append hrun', List.map_append⟩

/-! ### The levels on their way through the synchronizer -/

/-- `levels` are the inputs that the edge detector is still to see, oldest first: those that the second and first stages
hold the pins of, that of the tick, and the scheduled ones (R65, R66). They apply no system reset and show `bus`. -/
structure Driven (bus : List Nat) (x : State) (levels : List Inputs) : Prop where
  stage2 : ∀ a ∈ levels[0]?, x.tckS2 = a.tck ∧ x.tmsS2 = a.tms ∧ x.tdiS2 = a.tdi
  stage1 : ∀ a ∈ levels[1]?, x.tckS1 = a.tck ∧ x.tmsS1 = a.tms ∧ x.tdiS1 = a.tdi
  inputs : levels.drop 2 <+: x.inp :: x.pending
  calm : ∀ i ∈ levels.drop 2, i.systemReset = false ∧ i.readBus = bus

/-- While the tick's own inputs are among the levels they are as required, and the tick moves the levels on by one
stage. -/
theorem Driven.tick {bus : List Nat} {x : State} {a : Inputs} {levels : List Inputs}
    (h : Driven bus x (a :: levels)) (hlen : 2 ≤ levels.length) :
    x.noSystemReset ∧ x.inp.readBus = bus ∧ Driven bus (tapTick x).finishTick levels := by
  obtain _ | ⟨b, _ | ⟨i, levels⟩⟩ := levels
  · simp at hlen
  · simp at hlen
  · obtain ⟨rfl, hpending⟩ := List.cons_prefix_cons.mp h.inputs
    obtain ⟨hreset, hbus⟩ := h.calm x.inp List.mem_cons_self
    refine ⟨hreset, hbus, ?stage2, ?stage1, ?inputs, fun j hj => h.calm j (List.mem_cons_of_mem _ hj)⟩
    case stage2 => simpa using h.stage1
    case stage1 => simp
    case inputs =>
      cases hp : x.pending with
      | nil =>
        obtain rfl : levels = [] := by simpa [hp] using hpending
        exact List.nil_prefix
      | cons j rest => simpa [hp] using hpending

/-! ### The phases of TCK behind the synchronizer -/

/-- A driven block at the protocol's state `t`. `phase` is the level that `tck_prev` holds: low, or high with the cycle
whose mode and data the `rising` tick latched. -/
structure InPhase (bus : List Nat) (x t : State) (phase : Option Cycle) (levels : List Inputs) : Prop where
  driven : Driven bus x levels
  tracks : Tracks x t
  prev : x.tckPrev = phase.isSome
  latch : ∀ c ∈ phase, x.sampledMode = c.mode ∧ x.sampledData = c.data
  valid : t.cfg.wellFormed = true
  bus_eq : t.inp.readBus = bus
  bus_length : t.cfg.ports.length ≤ bus.length

section
variable {bus : List Nat} {x t : State} {phase : Option Cycle} {a : Inputs} {levels : List Inputs}

/-- Every tick shows the TDO of the protocol's state. -/
theorem InPhase.ticksReport (h : InPhase bus x t phase (a :: levels)) (hlen : 2 ≤ levels.length) :
    TicksReport x [t.tdo] (tapTick x).finishTick := by
  obtain ⟨hreset, -, -⟩ := h.driven.tick hlen
  rw [← h.tracks.tdo]
  exact .of_step (step_of_wellFormed (h.tracks.cfg ▸ h.valid) hreset)

theorem InPhase.tckS2 (h : InPhase bus x t phase (a :: levels)) : x.tckS2 = a.tck :=
  (h.driven.stage2 a rfl).1

/-- A tick whose level is that of the phase keeps the phase. -/
theorem InPhase.tick_hold (h : InPhase bus x t phase (a :: levels)) (hlen : 2 ≤ levels.length)
    (ha : a.tck = phase.isSome) : InPhase bus (tapTick x).finishTick t phase levels := by
  have hck : x.tckS2 = phase.isSome := h.tckS2.trans ha
  have hfalling : x.falling = false := by simp [State.falling, h.prev, hck]
  have hrising : x.rising = false := by simp [State.rising, h.prev, hck]
  obtain ⟨-, -, hdriven⟩ := h.driven.tick hlen
  exact ⟨hdriven, h.tracks.of_not_falling hfalling, by simp [hck], by simpa [hrising] using h.latch, h.valid, h.bus_eq,
    h.bus_length⟩

/-- R70, R75: the first high level latches its cycle. -/
theorem InPhase.tick_rise (h : InPhase bus x t none (a :: levels)) (hlen : 2 ≤ levels.length) (ha : a.tck = true) :
    InPhase bus (tapTick x).finishTick t (some ⟨a.tms, a.tdi⟩) levels := by
  obtain ⟨hck, hms, hdi⟩ := h.driven.stage2 a rfl
  have hfalling : x.falling = false := by simp [State.falling, h.prev]
  have hrising : x.rising = true := by simp [State.rising, h.prev, hck, ha]
  obtain ⟨-, -, hdriven⟩ := h.driven.tick hlen
  exact ⟨hdriven, h.tracks.of_not_falling hfalling, by simp [hck, ha], by simp [hrising, hms, hdi], h.valid, h.bus_eq,
    h.bus_length⟩

/-- R71, R80: the first low level runs the cycle. -/
theorem InPhase.tick_fall {c : Cycle} (h : InPhase bus x t (some c) (a :: levels)) (hlen : 2 ≤ levels.length)
    (ha : a.tck = false) :
    InPhase bus (tapTick x).finishTick (tapAction (Instr.ofState t.tap c.mode c.data) t) none levels := by
  have hck : x.tckS2 = false := h.tckS2.trans ha
  have hfalling : x.falling = true := by simp [State.falling, h.prev, hck]
  obtain ⟨hmode, hdata⟩ := h.latch c rfl
  obtain ⟨-, hbus, hdriven⟩ := h.driven.tick hlen
  have hread (k : Nat) (hsel : t.sel = some k) : x.readBus k = t.readBus k := by
    have hk : k < bus.length := (State.sel_lt hsel).trans_le h.bus_length
    simp [State.readBus, h.tracks.cfg, hbus, h.bus_eq, hk]
  have htracks := h.tracks.of_falling hfalling hread
  rw [hmode, hdata] at htracks
  exact ⟨hdriven, htracks, by simp [hck], nofun, by simpa using h.valid, by simpa using h.bus_eq,
    by simpa using h.bus_length⟩

/-- Levels of one phase keep it, and nothing happens but time. -/
theorem InPhase.hold {as : List Inputs} (h : InPhase bus x t phase (as ++ levels)) (hlen : 2 ≤ levels.length)
    (has : ∀ a ∈ as, a.tck = phase.isSome) :
    ∃ y, TicksReport x (List.replicate as.length t.tdo) y ∧ InPhase bus y t phase levels := by
  induction as generalizing x with
  | nil => exact ⟨x, .refl x, h⟩
  | cons a as ih =>
    obtain ⟨ha, has⟩ := List.forall_mem_cons.mp has
    have hlen' : 2 ≤ (as ++ levels).length := by rw [List.length_append]; omega
    obtain ⟨y, hrun, hy⟩ := ih (h.tick_hold hlen' ha) has
    exact ⟨y, (h.ticksReport hlen').trans hrun, hy⟩

/-- A cycle, from its second low level to the low level after it, runs the cycle in its last tick. -/
theorem InPhase.cycle {c : Cycle} {bus' : List Nat} {lo hi : Nat}
    (h : InPhase bus x t none (List.replicate lo (c.inputs bus' false) ++
      (List.replicate (hi + 1) (c.inputs bus' true) ++ a :: levels)))
    (ha : a.tck = false) (hlen : 2 ≤ levels.length) :
    ∃ y, TicksReport x (List.replicate (lo + 1 + (hi + 1)) t.tdo) y ∧
      InPhase bus y (tapAction (Instr.ofState t.tap c.mode c.data) t) none levels := by
  have hlen' : 2 ≤ (List.replicate hi (c.inputs bus' true) ++ a :: levels).length := by simp; omega
  obtain ⟨y, hlow, hy⟩ := h.hold (by simp; omega) fun i hi => by rw [List.eq_of_mem_replicate hi]; rfl
  rw [List.replicate_succ, List.cons_append] at hy
  have hrise := hy.ticksReport hlen'
  obtain ⟨z, hhigh, hz⟩ := (hy.tick_rise hlen' rfl).hold (by simp; omega) fun i hi => by
    rw [List.eq_of_mem_replicate hi]; rfl
  refine ⟨_, ?_, hz.tick_fall hlen ha⟩
  have hfall := hz.ticksReport hlen
  have hrun := ((hlow.trans hrise).trans hhigh).trans hfall
  simpa [List.replicate_add] using hrun

end

/-! ### The waveform of a program -/

section
variable {bus : List Nat} {cs : List Cycle} {lo hi : Nat} {tail : List Inputs}

theorem programWaveform_cons (c : Cycle) (cs : List Cycle) (bus : List Nat) (lo hi : Nat) :
    programWaveform (c :: cs) bus lo hi =
      List.replicate lo (c.inputs bus false) ++ List.replicate hi (c.inputs bus true) ++
        programWaveform cs bus lo hi := by
  simp [programWaveform, Cycle.waveform]

/-- The host applies no system reset and shows `bus` (R63). -/
theorem calm_of_mem_programWaveform {i : Inputs} (h : i ∈ programWaveform cs bus lo hi) :
    i.systemReset = false ∧ i.readBus = bus := by
  simp only [programWaveform, Cycle.waveform, List.mem_flatten, List.mem_map] at h
  obtain ⟨_, ⟨c, -, rfl⟩, hi⟩ := h
  rcases List.mem_append.mp hi with hi | hi <;> rw [List.eq_of_mem_replicate hi] <;> exact ⟨rfl, rfl⟩

/-- A waveform begins with TCK low, and so does what follows it; at least two levels come after that one. -/
theorem programWaveform_append_eq_cons (htail : 3 ≤ tail.length) (hlow : ∀ i ∈ tail, i.tck = false) :
    ∃ z levels, programWaveform cs bus (lo + 1) hi ++ tail = z :: levels ∧ z.tck = false ∧ 2 ≤ levels.length := by
  cases cs with
  | nil =>
    obtain ⟨z, levels, rfl⟩ := List.exists_cons_of_length_pos (by omega : 0 < tail.length)
    exact ⟨z, levels, rfl, hlow z List.mem_cons_self, by simpa using htail⟩
  | cons c cs =>
    exact ⟨c.inputs bus false, List.replicate lo (c.inputs bus false) ++ List.replicate hi (c.inputs bus true) ++
      programWaveform cs bus (lo + 1) hi ++ tail, by rw [programWaveform_cons]; rfl, rfl, by simp; omega⟩

/-- The ticks run a program, one cycle's length behind its pins but for the first low level, which the block has
seen already. -/
theorem InPhase.program {x t : State} {z : Inputs} {levels : List Inputs} (h : InPhase bus x t none levels)
    (hlevels : programWaveform cs bus (lo + 1) (hi + 1) ++ tail = z :: levels) (htail : 3 ≤ tail.length)
    (hlow : ∀ i ∈ tail, i.tck = false) :
    ∃ y u, TicksReport x ((cyclesTdo cs t).flatMap fun b => List.replicate (lo + 1 + (hi + 1)) b) y ∧
      runCycles cs t = .next u ∧ InPhase bus y u none tail.tail := by
  induction cs generalizing x t z levels with
  | nil =>
    obtain rfl : tail = z :: levels := hlevels
    exact ⟨x, t, .refl x, rfl, h⟩
  | cons c cs ih =>
    obtain ⟨z', levels', hrest, hz', hlen⟩ := programWaveform_append_eq_cons (cs := cs) (bus := bus) (lo := lo)
      (hi := hi + 1) htail hlow
    have hfirst : levels = List.replicate lo (c.inputs bus false) ++
        (List.replicate (hi + 1) (c.inputs bus true) ++ z' :: levels') := by
      rw [programWaveform_cons, List.replicate_succ, List.append_assoc, List.append_assoc, hrest] at hlevels
      exact (List.cons.inj hlevels).2.symm
    rw [hfirst] at h
    obtain ⟨y, hcycle, hy⟩ := h.cycle hz' hlen
    obtain ⟨w, u, hrun, hprogram, hw⟩ := ih hy hrest
    refine ⟨w, u, ?_, (runCycles_cons c cs t).trans hprogram, hw⟩
    rw [cyclesTdo_cons, List.flatMap_cons]
    exact hcycle.trans hrun

/-- The pins that the second and the first stages hold. -/
def State.stagedInputs (s : State) : List Inputs :=
  [{ quietInputs with tck := s.tckS2, tms := s.tmsS2, tdi := s.tdiS2 },
    { quietInputs with tck := s.tckS1, tms := s.tmsS1, tdi := s.tdiS1 }]

/-- A block at rest whose schedule is the waveform of a program and then three ticks with TCK low (R63, R146). -/
structure DrivenFromRest (s : State) (cs : List Cycle) (bus : List Nat) (lo hi : Nat) (tail rest : List Inputs) :
    Prop where
  valid : s.cfg.wellFormed = true
  lo_pos : 1 ≤ lo
  hi_pos : 1 ≤ hi
  bus_length : s.cfg.ports.length ≤ bus.length
  tckS1 : s.tckS1 = false
  tckS2 : s.tckS2 = false
  prev : s.tckPrev = false
  tail_length : tail.length = 3
  tail_low : ∀ i ∈ tail, i.tck = false ∧ i.systemReset = false ∧ i.readBus = bus
  schedule : s.inp :: s.pending = programWaveform cs bus lo hi ++ tail ++ rest

variable {s : State} {rest : List Inputs}

/-- At rest the block is in a low phase at its own registers, with the schedule behind the two stages. -/
theorem DrivenFromRest.inPhase (h : DrivenFromRest s cs bus lo hi tail rest) :
    InPhase bus s s none (s.stagedInputs ++ (programWaveform cs bus lo hi ++ tail)) := by
  have hdriven : Driven bus s (s.stagedInputs ++ (programWaveform cs bus lo hi ++ tail)) := by
    refine ⟨?stage2, ?stage1, ?inputs, fun i hmem => ?calm⟩
    case stage2 => simp [State.stagedInputs]
    case stage1 => simp [State.stagedInputs]
    case inputs => exact h.schedule ▸ List.prefix_append _ _
    case calm =>
      change i ∈ programWaveform cs bus lo hi ++ tail at hmem
      rcases List.mem_append.mp hmem with hmem | hmem
      · exact calm_of_mem_programWaveform hmem
      · exact (h.tail_low i hmem).2
  obtain ⟨-, hbus, -⟩ := hdriven.tick (by simp [h.tail_length])
  exact ⟨hdriven, ⟨rfl, rfl, rfl, rfl, fun _ => rfl⟩, h.prev, nofun, h.valid, hbus, h.bus_length⟩

/-- R105, R146: the ticks run the program three ticks behind the pins, and report its TDO. -/
theorem DrivenFromRest.ticksReport (h : DrivenFromRest s cs bus lo hi tail rest) :
    ∃ y u, TicksReport s
        (List.replicate 3 s.tdo ++ (cyclesTdo cs s).flatMap fun b => List.replicate (lo + hi) b) y ∧
      runCycles cs s = .next u ∧ Tracks y u := by
  obtain ⟨lo, rfl⟩ := Nat.exists_eq_add_of_le' h.lo_pos
  obtain ⟨hi, rfl⟩ := Nat.exists_eq_add_of_le' h.hi_pos
  have htail : 3 ≤ tail.length := h.tail_length.ge
  have hlow (i : Inputs) (hi : i ∈ tail) : i.tck = false := (h.tail_low i hi).1
  obtain ⟨z, levels, hlevels, hz, hlen⟩ := programWaveform_append_eq_cons (cs := cs) (bus := bus) (lo := lo)
    (hi := hi + 1) htail hlow
  have hstart := h.inPhase
  rw [hlevels, List.append_cons] at hstart
  obtain ⟨x, hrest, hx⟩ := hstart.hold hlen (by simp [State.stagedInputs, h.tckS1, h.tckS2, hz])
  obtain ⟨y, u, hrun, hprogram, hy⟩ := hx.program hlevels htail hlow
  exact ⟨y, u, hrest.trans hrun, hprogram, hy.tracks⟩

/-- The run has a tick for each level of the waveform and three more. -/
theorem length_of_map_tdo_eq {trace : List State}
    (h : trace.map State.tdo =
      List.replicate 3 s.tdo ++ (cyclesTdo cs s).flatMap fun b => List.replicate (lo + hi) b) :
    trace.length = cs.length * (lo + hi) + 3 := by
  have hlen := congrArg List.length h
  simpa [cyclesTdo_length, Nat.add_comm 3] using hlen

end

/-- Settles O58: the protocol's program is what the ticks track at their end. -/
theorem pinWaveformRunsTheProgram : Obligations.PinWaveformRunsTheProgram := by
  intro s t cs bus lo hi tail rest hcfg hlo hhi hports hck1 hck2 hprev hlen htail hschedule hprogram
  obtain ⟨u, t', ⟨trace, hrun, htdo⟩, hprogram', htracks⟩ :=
    DrivenFromRest.ticksReport ⟨hcfg, hlo, hhi, hports, hck1, hck2, hprev, hlen, htail, hschedule⟩
  obtain rfl : t' = t := by simpa [hprogram] using hprogram'.symm
  exact ⟨trace, u, hrun, length_of_map_tdo_eq htdo, htracks.tap, htracks.dr, htracks.wr, htracks.ir⟩

/-- Where each element of a list is repeated `n` times, the places from `j * n` on show element `j`. -/
theorem getElem?_flatMap_replicate {α : Type} (l : List α) (j : Nat) {n r : Nat} (hr : r < n) :
    (l.flatMap fun b => List.replicate n b)[j * n + r]? = l[j]? := by
  induction l generalizing j with
  | nil => simp
  | cons b l ih =>
    rw [List.flatMap_cons]
    cases j with
    | zero => simp [List.getElem?_append_left, hr]
    | succ j =>
      have hplace : (j + 1) * n + r = (List.replicate n b).length + (j * n + r) := by
        rw [List.length_replicate, Nat.succ_mul]; omega
      rw [hplace, List.getElem?_append_right (by omega), Nat.add_sub_cancel_left, ih, List.getElem?_cons_succ]

/-- Settles O59: the host raises TCK of cycle `j` where the run, three ticks behind, still shows what it reports. -/
theorem pinWaveformReportsTdo : Obligations.PinWaveformReportsTdo := by
  intro s cs bus lo hi tail rest hcfg hlo hhi hports hck1 hck2 hprev hlen htail hschedule
  obtain ⟨u, -, ⟨trace, hrun, htdo⟩, -, -⟩ :=
    DrivenFromRest.ticksReport ⟨hcfg, hlo, hhi, hports, hck1, hck2, hprev, hlen, htail, hschedule⟩
  refine ⟨trace, u, hrun, length_of_map_tdo_eq htdo, htdo, fun hlo3 j _ => ?_⟩
  have hplace : j * (lo + hi) + lo = (List.replicate 3 s.tdo).length + (j * (lo + hi) + (lo - 3)) := by
    rw [List.length_replicate]; omega
  rw [htdo, hplace, List.getElem?_append_right (by omega), Nat.add_sub_cancel_left]
  exact getElem?_flatMap_replicate _ j (by omega)

end Sys2Proof.Machine
